-- ==== Sys2Proof/Word.lean ====
section
/-! DEFINITION. The widths the spec gives its registers and its command word (R8, R80); every quantity is
unsigned (R12, R121). -/

namespace Sys2Proof

/-- An 8-bit register or operand (R8). -/
abbrev Byte := BitVec 8

/-- The 16-bit `reloadPeriod` and the operand `B` (R8, R25, R80). -/
abbrev HWord := BitVec 16

/-- The 32-bit command word (R80). -/
abbrev CmdWord := BitVec 32

/-- The 4-bit code of a `BusState` value (R86). -/
abbrev StateCode := BitVec 4

end Sys2Proof
end

