-- ==== Sys2Proof/Syntax.lean ====
section
/-! DEFINITION. The instruction set: the 15 host commands (format CMD, R82) and the 16 engine micro-steps
(format STATE, R86), one constructor per row of the opcode table. -/

namespace Sys2Proof

/-- The 16 values of `BusState` in the order of R21. -/
inductive BusState where
  | idle
  | startBit
  | readWait
  | sample
  | release
  | resetPulse
  | resetRelease
  | resetSample
  | resetRecover
  | delay1
  | delay8
  | delay128
  | delaying
  | delayEnd
  | strongPullup
  | strongPullupDelay
  deriving DecidableEq, Repr

/-- A host command with the operand fields it uses (R81, R82: `a` is the field A, `b` the field B), or an engine
micro-step (prefix `st`). -/
inductive Instr where
  | init
  | wrbit (a : Byte)
  | rdbit
  | wrbyte (a : Byte)
  | rdbyte
  | reset
  | delay1 (a : Byte) (b : HWord)
  | delay8 (a : Byte) (b : HWord)
  | delay128 (a : Byte) (b : HWord)
  | spudelay
  | search
  | srchclr
  | isidle
  | crc8upd (a : Byte) (b : HWord)
  | rdreg (a : Byte)
  | stIdle
  | stStartBit
  | stReadWait
  | stSample
  | stRelease
  | stResetPulse
  | stResetRelease
  | stResetSample
  | stResetRecover
  | stDelay1
  | stDelay8
  | stDelay128
  | stDelaying
  | stDelayEnd
  | stStrongPullup
  | stStrongPullupDelay
  deriving DecidableEq, Repr

end Sys2Proof
end

