-- ==== Sys2Proof/Decode.lean ====
section
/-! DEFINITION. The encodings of the 32-bit command word (format CMD, R80 to R85) and of the 4-bit state code
(format STATE, R86): a total decoder that rejects reserved opcodes by name (R83), and after it the encoder. -/

namespace Sys2Proof

/-- Why a command word is no command. -/
inductive DecodeError where
  /-- `op` is 0x00 or 0x10 to 0xFF (R83). -/
  | reservedOpcode (op : Byte)
  deriving DecidableEq, Repr

/-- What the block decodes: a host command word, or the code in `state`. -/
inductive Code where
  | cmd (w : CmdWord)
  | state (c : StateCode)
  deriving DecidableEq, Repr

/-- The bits of a code, bit 0 the least significant. -/
def Code.bits : Code → BitVec 32
  | .cmd w => w
  | .state c => c.setWidth 32

/-- `op` = bits [7:0] (R80). -/
def opField (w : CmdWord) : Byte := w.extractLsb' 0 8

/-- `A` = bits [15:8] (R80, R81). -/
def aField (w : CmdWord) : Byte := w.extractLsb' 8 8

/-- `B` = bits [31:16] (R80, R81). -/
def bField (w : CmdWord) : HWord := w.extractLsb' 16 16

/-- The opcode map of R82; operand bits that a command does not use are ignored (R84). -/
def decodeCmd (w : CmdWord) : Except DecodeError Instr :=
  match (opField w).toNat with
  | 0x01 => .ok .init
  | 0x02 => .ok (.wrbit (aField w))
  | 0x03 => .ok .rdbit
  | 0x04 => .ok (.wrbyte (aField w))
  | 0x05 => .ok .rdbyte
  | 0x06 => .ok .reset
  | 0x07 => .ok (.delay1 (aField w) (bField w))
  | 0x08 => .ok (.delay8 (aField w) (bField w))
  | 0x09 => .ok (.delay128 (aField w) (bField w))
  | 0x0A => .ok .spudelay
  | 0x0B => .ok .search
  | 0x0C => .ok .srchclr
  | 0x0D => .ok .isidle
  | 0x0E => .ok (.crc8upd (aField w) (bField w))
  | 0x0F => .ok (.rdreg (aField w))
  | _ => .error (.reservedOpcode (opField w))

/-- The `BusState` value of a 4-bit code; all 16 codes are assigned (R86). -/
def BusState.ofCode (c : StateCode) : BusState :=
  match c.toNat with
  | 0x0 => .idle
  | 0x1 => .startBit
  | 0x2 => .readWait
  | 0x3 => .sample
  | 0x4 => .release
  | 0x5 => .resetPulse
  | 0x6 => .resetRelease
  | 0x7 => .resetSample
  | 0x8 => .resetRecover
  | 0x9 => .delay1
  | 0xA => .delay8
  | 0xB => .delay128
  | 0xC => .delaying
  | 0xD => .delayEnd
  | 0xE => .strongPullup
  | _ => .strongPullupDelay

/-- The code of a `BusState` value: its position in the list of R21 (R86). -/
def BusState.code : BusState → StateCode
  | .idle => 0x0
  | .startBit => 0x1
  | .readWait => 0x2
  | .sample => 0x3
  | .release => 0x4
  | .resetPulse => 0x5
  | .resetRelease => 0x6
  | .resetSample => 0x7
  | .resetRecover => 0x8
  | .delay1 => 0x9
  | .delay8 => 0xA
  | .delay128 => 0xB
  | .delaying => 0xC
  | .delayEnd => 0xD
  | .strongPullup => 0xE
  | .strongPullupDelay => 0xF

/-- The micro-step that a `BusState` value selects (R86, R100). -/
def BusState.microStep : BusState → Instr
  | .idle => .stIdle
  | .startBit => .stStartBit
  | .readWait => .stReadWait
  | .sample => .stSample
  | .release => .stRelease
  | .resetPulse => .stResetPulse
  | .resetRelease => .stResetRelease
  | .resetSample => .stResetSample
  | .resetRecover => .stResetRecover
  | .delay1 => .stDelay1
  | .delay8 => .stDelay8
  | .delay128 => .stDelay128
  | .delaying => .stDelaying
  | .delayEnd => .stDelayEnd
  | .strongPullup => .stStrongPullup
  | .strongPullupDelay => .stStrongPullupDelay

/-- The micro-step that a state code selects (R86); total, since no code is unassigned. -/
def decodeState (c : StateCode) : Instr := (BusState.ofCode c).microStep

/-- The decoder of both formats. -/
def decode : Code → Except DecodeError Instr
  | .cmd w => decodeCmd w
  | .state c => .ok (decodeState c)

/-- The word `op | (A << 8) | (B << 16)` of R91. -/
def cmdWord (op : Byte) (a : Byte) (b : HWord) : CmdWord :=
  op.setWidth 32 ||| a.setWidth 32 <<< 8 ||| b.setWidth 32 <<< 16

/-- The encoder, from the tables of R82 and R86; operand fields that a command does not use are 0 (R84). -/
def encode : Instr → Code
  | .init => .cmd (cmdWord 0x01 0 0)
  | .wrbit a => .cmd (cmdWord 0x02 a 0)
  | .rdbit => .cmd (cmdWord 0x03 0 0)
  | .wrbyte a => .cmd (cmdWord 0x04 a 0)
  | .rdbyte => .cmd (cmdWord 0x05 0 0)
  | .reset => .cmd (cmdWord 0x06 0 0)
  | .delay1 a b => .cmd (cmdWord 0x07 a b)
  | .delay8 a b => .cmd (cmdWord 0x08 a b)
  | .delay128 a b => .cmd (cmdWord 0x09 a b)
  | .spudelay => .cmd (cmdWord 0x0A 0 0)
  | .search => .cmd (cmdWord 0x0B 0 0)
  | .srchclr => .cmd (cmdWord 0x0C 0 0)
  | .isidle => .cmd (cmdWord 0x0D 0 0)
  | .crc8upd a b => .cmd (cmdWord 0x0E a b)
  | .rdreg a => .cmd (cmdWord 0x0F a 0)
  | .stIdle => .state 0x0
  | .stStartBit => .state 0x1
  | .stReadWait => .state 0x2
  | .stSample => .state 0x3
  | .stRelease => .state 0x4
  | .stResetPulse => .state 0x5
  | .stResetRelease => .state 0x6
  | .stResetSample => .state 0x7
  | .stResetRecover => .state 0x8
  | .stDelay1 => .state 0x9
  | .stDelay8 => .state 0xA
  | .stDelay128 => .state 0xB
  | .stDelaying => .state 0xC
  | .stDelayEnd => .state 0xD
  | .stStrongPullup => .state 0xE
  | .stStrongPullupDelay => .state 0xF

/-- The bits of a command word that select and parameterise command `i` (R82, column "Operands used"). -/
def usedBits : Instr → CmdWord
  | .wrbit _ => 0x000001FF
  | .wrbyte _ | .rdreg _ => 0x0000FFFF
  | .delay1 _ _ | .delay8 _ _ | .delay128 _ _ => 0xFFFFFFFF
  | .crc8upd _ _ => 0x00FFFFFF
  | .init | .rdbit | .rdbyte | .reset | .spudelay | .search | .srchclr | .isidle => 0x000000FF
  | .stIdle | .stStartBit | .stReadWait | .stSample | .stRelease | .stResetPulse | .stResetRelease
  | .stResetSample | .stResetRecover | .stDelay1 | .stDelay8 | .stDelay128 | .stDelaying | .stDelayEnd
  | .stStrongPullup | .stStrongPullupDelay => 0x0000000F

/-- The instruction the decoder reads from a row's bits as the opcode table numbers them: a STATE row is the
4-bit register `state` (at most one whole byte, of which the register holds bits [3:0]), a CMD row the 32-bit
command word (log entry 11). -/
def decodeTableWord (nbits w : Nat) : Option Instr :=
  if nbits ≤ 8 then some (decodeState (BitVec.ofNat 4 w))
  else (decodeCmd (BitVec.ofNat 32 w)).toOption

end Sys2Proof
end

