-- ==== Sys2Proof/Config.lean ====
section
/-! DEFINITION. What the spec calls parameters (R8, R10, R11), and the two free values of the model: the level
the environment puts on the released line (R102) and which context moves next (R70). -/

namespace Sys2Proof

/-- The timer's three resolutions: 1, 8 and 128 µs per count (R10, R26). -/
inductive Resolution where
  | r1
  | r8
  | r128
  deriving DecidableEq, Repr

/-- The duration of one count in µs (R10, R87). -/
def Resolution.micros : Resolution → Nat
  | .r1 => 1
  | .r8 => 8
  | .r128 => 128

/-- One timing parameter: the pair (resolution, counts) of R10. -/
structure TimerSetting where
  res : Resolution
  counts : Nat
  deriving DecidableEq, Repr

/-- The parameters of the block: the Timing Profile with `SPU_COUNTS` and `SPU_EVENTS` (R10), and `SEARCH_CMD`
(R11). The spec lets a model pass another set than the defaults, so they are a record that `State` carries and
no step changes (log entry 4). -/
structure Config where
  tIdle : TimerSetting
  tW1Low : TimerSetting
  tRdWait : TimerSetting
  tSlotTail : TimerSetting
  tW0Low : TimerSetting
  tW0Rec : TimerSetting
  tRstLow : TimerSetting
  tPresWait : TimerSetting
  tRstRec : TimerSetting
  spuCounts : Nat
  spuEvents : Nat
  searchCmd : Byte
  deriving DecidableEq, Repr

/-- The default Timing Profile of R10 and the default `SEARCH_CMD` of R11.
DESIGN CHOICE (the spec's decisions D11, D16, D22; log entry 4). -/
def Config.standard : Config where
  tIdle := ⟨.r1, 20⟩
  tW1Low := ⟨.r1, 6⟩
  tRdWait := ⟨.r1, 9⟩
  tSlotTail := ⟨.r1, 55⟩
  tW0Low := ⟨.r1, 60⟩
  tW0Rec := ⟨.r1, 10⟩
  tRstLow := ⟨.r8, 60⟩
  tPresWait := ⟨.r1, 70⟩
  tRstRec := ⟨.r1, 10⟩
  spuCounts := 234
  spuEvents := 25
  searchCmd := 0xF0

/-- FREE VALUE: the level of the released line at the `n`-th sample the environment has no listed answer for
(R102: "one free bit per call"). Nothing constrains it (log entry 2). -/
opaque Config.freeSample : Nat → Bool

/-- FREE VALUE: whether the engine (`true`) or the front end (`false`) takes the `n`-th turn when the schedule
lists none and both have a step (R70, R208). Nothing constrains it (log entry 1). -/
opaque Config.freeTurn : Nat → Bool

end Sys2Proof
end

