-- ==== Sys2Proof/Machine/State.lean ====
section
/-! DEFINITION. The state of the block (R20 to R36), the front end's control point, the environment's inputs, the
reset state (R42), and the reasons a step can stop. -/

namespace Sys2Proof.Machine

/-- What the block does to the line (R28). -/
inductive LineDrive where
  | released
  | low
  | high
  deriving DecidableEq, Repr

/-- Who takes a turn: the engine (a compare-match event is delivered), the front end, or the power-on reset
input (R6, R205, R230). -/
inductive Turn where
  | engine
  | frontEnd
  | resetInput
  deriving DecidableEq, Repr

/-- The control points of a running SEARCH (R184), each naming the step the front end takes next. -/
inductive SearchPoint where
  /-- RESET as a sub-step: `AwaitIdle; Arm(ResetPulse)` (R175). -/
  | busReset
  /-- RESET as a sub-step: `AwaitIdle`, then the test of presence (R175). -/
  | presence
  /-- `AwaitIdle` and the arm of `WRBIT SEARCH_CMD[i]` (R175). -/
  | sendCmd (i : Fin 8)
  /-- `lastZero <- 0; pos <- 1` (R175). -/
  | beginPass
  /-- READ2: `AwaitIdle; Arm(StartBit)` (R176, R149). -/
  | probe
  /-- READ2: `AwaitIdle`, then `idBit` and `cmpBit` (R149). -/
  | readProbe
  /-- The choice on the probe code (R177 to R180). -/
  | choose
  /-- `SetIdBit(pos, dir)` (R181). -/
  | record
  /-- `AwaitIdle` and the arm of `WRBIT dir` (R181). -/
  | writeBack
  /-- `pos <- pos + 1`, or the end of the pass after 64 (R181). -/
  | advance
  /-- `lastDiscrepancy` and `lastDeviceFlag` (R182). -/
  | endPass
  /-- The CRC check (R183). -/
  | crcCheck
  /-- `Return(0x00)`. -/
  | notFound
  /-- `Return(0x01)`. -/
  | found
  deriving DecidableEq, Repr

/-- Where the front end stands in the accepted command: at its first step, at its second and last, or at a point
of a SEARCH. -/
inductive Phase where
  | start
  | finish
  | search (p : SearchPoint)
  deriving DecidableEq, Repr

/-- The whole machine. The first four groups are the block's registers (R20 to R36); the last three are the
model's own: the accepted command, and the inputs of the block from outside. -/
structure State where
  -- EngineContext (R20 to R25)
  state : BusState
  shiftRegister : Byte
  bitsRemaining : Byte
  reloadTicks : Byte
  reloadPeriod : HWord
  -- outputs to the timer and the line (R26 to R28)
  timerRes : Resolution
  timerCompare : Byte
  lineDrive : LineDrive
  -- SearchSession (R29 to R34)
  deviceId : Vector Byte 8
  lastDiscrepancy : Byte
  lastFamilyDiscrepancy : Byte
  lastDeviceFlag : Bool
  lastZero : Byte
  -- search working registers (R35)
  pos : BitVec 7
  idBit : Bool
  cmpBit : Bool
  dir : Bool
  -- front-end registers (R36)
  result : Byte
  cmdBusy : Bool
  -- the accepted command (log entry 3)
  cmdWord : CmdWord
  phase : Phase
  -- whether the block has been reset or initialised (R219 (a), R231; log entry 5)
  initialised : Bool
  -- inputs from outside: command words the host presents in order, levels of the released line in sample order,
  -- turns in order; the counters number the free values used when a list is empty (log entries 1, 2, 6)
  hostCommands : List CmdWord
  lineInput : List Bool
  sampleCount : Nat
  schedule : List Turn
  turnCount : Nat
  -- the parameters of R10 and R11, constant (log entry 4)
  config : Config
  deriving DecidableEq, Repr

/-- The machine right after reset (R42), with no input listed and the default parameters. -/
def State.reset : State where
  state := .idle
  shiftRegister := 0x00
  bitsRemaining := 0x00
  reloadTicks := 0x00
  reloadPeriod := 0x0000
  timerRes := .r1
  timerCompare := 20
  lineDrive := .released
  deviceId := #v[0x00, 0x00, 0x00, 0x00, 0x00, 0x00, 0x00, 0x00]
  lastDiscrepancy := 0
  lastFamilyDiscrepancy := 0
  lastDeviceFlag := false
  lastZero := 0
  pos := 0
  idBit := false
  cmpBit := false
  dir := false
  result := 0x00
  cmdBusy := false
  cmdWord := 0x00000000
  phase := .start
  initialised := true
  hostCommands := []
  lineInput := []
  sampleCount := 0
  schedule := []
  turnCount := 0
  config := Config.standard

/-- The block has no fault: "the engine itself cannot fail", and no behaviour is treated as `fault` (R200). -/
inductive Fault where
  deriving DecidableEq, Repr

/-- The steps the spec says a model gives no meaning (`refuse`, R219). All are safe: the model stops where a
hardware realisation might go on. -/
inductive Refusal where
  /-- An arm of `exec` without a meaning. Raised by `exec` only; safe. -/
  | notModelled (mnemonic : String)
  /-- The host presents a reserved opcode (R83, R152, R219 (c)). Raised when a command word is fetched; safe. -/
  | reservedOpcode (op : Byte)
  /-- The host presents a command other than INIT to a block that was never reset or initialised (R219 (a)).
  Raised when a command word is fetched; safe. -/
  | beforeInit
  /-- The host presents INIT while an operation is in flight in a block that INIT or the reset input has initialised
  (R143, R219 (b); log entry 17). Raised by INIT; safe. -/
  | initInFlight
  deriving DecidableEq, Repr

end Sys2Proof.Machine
end

