-- ==== Sys2Proof/Machine/Flags.lean ====
section
/-! DEFINITION. The bits that act as flags (R37), the count-down tests (R121), and the slot shift (R106). The
block has no condition-code register. -/

namespace Sys2Proof.Machine

/-- `zext_8` of one bit: a boolean result is 0x01 or 0x00 (R85). -/
def boolByte (b : Bool) : Byte := if b then 0x01 else 0x00

/-- `(s << 7) | (shiftRegister >> 1)`: the data path into bit 7 (R106, R107, R110). -/
def shiftIn (s : Bool) (sr : Byte) : Byte := boolByte s <<< 7 ||| sr >>> 1

/-- `shiftRegister[0]`, the bit the next slot sends (R104). -/
def State.outBit (s : State) : Bool := s.shiftRegister.getLsbD 0

/-- `shiftRegister[7]` after a one-slot read: the sampled bit (R145). -/
def State.sampledBit (s : State) : Bool := s.shiftRegister.getLsbD 7

/-- `shiftRegister[6]` after a probe: the bit of the first slot (R89). -/
def State.probeFirst (s : State) : Bool := s.shiftRegister.getLsbD 6

/-- Presence after a bus reset: `shiftRegister[7] == 0` (R22, R148). -/
def State.presence (s : State) : Bool := !s.shiftRegister.getLsbD 7

/-- The condition `state == Idle` (R37, R150). -/
def State.isIdle (s : State) : Bool := s.state == .idle

/-- `bitsRemaining != 0`, tested after the decrement (R106, R121). -/
def moreBits (bits : Byte) : Bool := bits - 1 != 0

/-- `reloadPeriod == 0`, tested after the decrement (R115, R121). -/
def periodOver (period : HWord) : Bool := period - 1 == 0

/-- The probe code `11`: no device responded (R89, R177). -/
def State.noResponse (s : State) : Bool := s.idBit && s.cmpBit

/-- The probe codes `01` and `10`: no discrepancy at this position (R89, R178). -/
def State.agreed (s : State) : Bool := s.idBit != s.cmpBit

end Sys2Proof.Machine
end

