-- ==== Sys2Proof/Machine/Operands.lean ====
section
/-! DEFINITION. Operand forms: the operand bits of a command (R81), counts where 0 stands for the full range
(R121), bit-position addressing of `deviceId` (R65), and the host register window (R62). -/

namespace Sys2Proof.Machine

/-- `A[0]`, the only operand bit WRBIT uses (R81, R144). -/
def lowBit (a : Byte) : Byte := boolByte (a.getLsbD 0)

/-- `B[7:0]`, the running value of CRC8UPD (R81). -/
def lowByte (b : HWord) : Byte := b.setWidth 8

/-- `N(x)`: x if x != 0, else 256 (R112, R121). -/
def fullCount (x : Byte) : Nat := if x = 0 then 256 else x.toNat

/-- The number of events a stored `reloadPeriod` stands for: 0 means 65536 (R25, R121). -/
def fullPeriod (x : HWord) : Nat := if x = 0 then 65536 else x.toNat

/-- The index of the byte of `deviceId` that holds position `p` (R65). -/
def idByteIndex (p : BitVec 7) : Nat := (p.toNat - 1) / 8

/-- The number within its byte of the bit at position `p` (R65). -/
def idBitIndex (p : BitVec 7) : Nat := (p.toNat - 1) % 8

/-- The mask of position `p` within its byte (R65). -/
def idMask (p : BitVec 7) : Byte := 1 <<< idBitIndex p

/-- `deviceId[i]`, for i in 0 to 7 (R13, R30). -/
def State.idByte (s : State) (i : Nat) : Byte := s.deviceId[i]?.getD 0

/-- `IdBit(p)` (R13, R65). -/
def State.getIdBit (s : State) (p : BitVec 7) : Bool := (s.idByte (idByteIndex p)).getLsbD (idBitIndex p)

/-- The byte that `SetIdBit(p, v)` leaves where position `p` lies (R65). -/
def withIdBit (old : Byte) (p : BitVec 7) (v : Bool) : Byte := if v then old ||| idMask p else old &&& ~~~idMask p

/-- `SetIdBit(p, v)` (R13, R65). -/
def State.setIdBit (s : State) (p : BitVec 7) (v : Bool) : State :=
  { s with
    deviceId := s.deviceId.setIfInBounds (idByteIndex p) (withIdBit (s.idByte (idByteIndex p)) p v) }

/-- The code of `timerRes`, read in bits [1:0] of TRES (R87). -/
def resolutionCode : Resolution → Byte
  | .r1 => 0
  | .r8 => 1
  | .r128 => 2

/-- The code of `lineDrive`, read in bits [1:0] of LINE (R88). -/
def lineCode : LineDrive → Byte
  | .released => 0
  | .low => 1
  | .high => 2

/-- `Window[A]`: the read-only host register window (R62); reserved addresses read 0x00. -/
def State.window (s : State) (a : Byte) : Byte :=
  match a.toNat with
  | 0x00 => s.state.code.setWidth 8
  | 0x01 => s.shiftRegister
  | 0x02 => s.bitsRemaining
  | 0x03 => s.reloadTicks
  | 0x04 => s.reloadPeriod.extractLsb' 0 8
  | 0x05 => s.reloadPeriod.extractLsb' 8 8
  | 0x06 => resolutionCode s.timerRes
  | 0x07 => s.timerCompare
  | 0x08 => lineCode s.lineDrive
  | 0x09 => s.result
  | 0x10 => s.idByte 0
  | 0x11 => s.idByte 1
  | 0x12 => s.idByte 2
  | 0x13 => s.idByte 3
  | 0x14 => s.idByte 4
  | 0x15 => s.idByte 5
  | 0x16 => s.idByte 6
  | 0x17 => s.idByte 7
  | 0x18 => s.lastDiscrepancy
  | 0x19 => s.lastFamilyDiscrepancy
  | 0x1A => s.lastZero
  | 0x1B => boolByte s.lastDeviceFlag
  | _ => 0x00

end Sys2Proof.Machine
end

