-- ==== Sys2Proof/Machine/Ops.lean ====
section
/-! DEFINITION. The named operations the meanings share: the timer and the line (R101, R102), the front end's
steps (R140 to R142), the search's bookkeeping (R172), the reset (R230), and the delivery of the compare-match
event (R209), which is all that stands in the place of an exception: the block has none (R200). -/

namespace Sys2Proof.Machine

/-- `SetTimer(res, n)` (R101). The divider is reconfigured only where `res` differs from `timerRes`; that the
reconfiguration is skipped otherwise leaves no trace in a register. -/
def State.setTimer (s : State) (res : Resolution) (n : Nat) : State :=
  { s with timerRes := res, timerCompare := BitVec.ofNat 8 n }

/-- `SetTimer(T_X)` for a timing parameter (R101). -/
def State.setTimerTo (s : State) (t : TimerSetting) : State := s.setTimer t.res t.counts

/-- `SetLine(m)` (R102). -/
def State.setLine (s : State) (m : LineDrive) : State := { s with lineDrive := m }

/-- `state <- S` (R13). -/
def State.toState (s : State) (b : BusState) : State := { s with state := b }

/-- The level of the released line at this sample: the environment's next listed level, or a free value (R102). -/
def State.lineLevel (s : State) : Bool :=
  match s.lineInput with
  | b :: _ => b
  | [] => Config.freeSample s.sampleCount

/-- The bit `SampleLine()` returns (R102): 0 while the block drives the line low, 1 while it drives it high, the
environment's bit when it is released. -/
def State.sampleBit (s : State) : Bool :=
  match s.lineDrive with
  | .low => false
  | .high => true
  | .released => s.lineLevel

/-- What `SampleLine()` consumes of the environment's input. Sampling changes no register (R69). -/
def State.afterSample (s : State) : State :=
  match s.lineDrive with
  | .low | .high => s
  | .released => { s with lineInput := s.lineInput.tail, sampleCount := s.sampleCount + 1 }

/-- `shiftRegister <- (b << 7) | (shiftRegister >> 1)` (R106, R107, R110). -/
def State.shiftInBit (s : State) (b : Bool) : State := { s with shiftRegister := shiftIn b s.shiftRegister }

/-- The end of a slot: `bitsRemaining` is decremented modulo 256, and the sequence goes on with `StartBit` or
ends in `Idle` by the value after the decrement (R106, R107). -/
def State.endSlot (s : State) : State :=
  { s with
    bitsRemaining := s.bitsRemaining - 1
    state := if moreBits s.bitsRemaining then .startBit else .idle }

/-- `Arm(StartBit; shiftRegister <- sr, bitsRemaining <- bits)` as one atomic step (R142, R71). -/
def State.armSlots (s : State) (sr bits : Byte) : State :=
  { s with shiftRegister := sr, bitsRemaining := bits, state := .startBit }

/-- `Arm(S; reloadTicks <- ticks, reloadPeriod <- period)` (R142, R160). -/
def State.armDelay (s : State) (b : BusState) (ticks : Byte) (period : HWord) : State :=
  { s with reloadTicks := ticks, reloadPeriod := period, state := b }

/-- The front end goes on to another of its control points. -/
def State.atPhase (s : State) (p : Phase) : State := { s with phase := p }

/-- `Return(v)`: the command completes with `v` in `RESULT` (R140, R14). -/
def State.ret (s : State) (v : Byte) : State := { s with result := v, cmdBusy := false, phase := .start }

/-- `AwaitIdle` and the step that follows it (R141): while `state != Idle` the front end has no step, so nothing
changes; when `state == Idle` the step `f` is taken. DEDUCED: `AwaitIdle` itself changes nothing, and only the
`Idle` micro-step could fall between the two (log entry 7). -/
def whenIdle (s : State) (f : State → State) : Host.Outcome State Fault Refusal :=
  if s.isIdle then .next (f s) else .next s

/-- The shape of a command that arms the engine and returns 0x00 without waiting (R144, R146, R160 to R163). -/
def armAndReturn (s : State) (arm : State → State) : Host.Outcome State Fault Refusal :=
  match s.phase with
  | .finish => .next (s.ret 0x00)
  | .start | .search _ => whenIdle s (fun s => (arm s).atPhase .finish)

/-- The shape of a command that arms the engine, waits for `Idle` again and returns a value (R145, R147, R148). -/
def armAndCollect (s : State) (arm : State → State) (value : State → Byte) : Host.Outcome State Fault Refusal :=
  match s.phase with
  | .finish => whenIdle s (fun s => s.ret (value s))
  | .start | .search _ => whenIdle s (fun s => (arm s).atPhase .finish)

/-- `ClearBookkeeping` (R172). -/
def State.clearBookkeeping (s : State) : State :=
  { s with lastDiscrepancy := 0, lastFamilyDiscrepancy := 0, lastDeviceFlag := false, lastZero := 0 }

/-- The reset of R230: every register of the block takes its reset value (R42). What stands outside the block (the
host's commands, the line's levels, the turns) and the parameters stay. -/
def State.resetBlock (s : State) : State :=
  { State.reset with
    timerCompare := BitVec.ofNat 8 s.config.tIdle.counts
    hostCommands := s.hostCommands
    lineInput := s.lineInput
    sampleCount := s.sampleCount
    schedule := s.schedule
    turnCount := s.turnCount
    config := s.config }

/-- The delivery of a compare-match event: the handler saves nothing, changes no mode, reads `state` and selects
the micro-step (R100, R209). Its return restores nothing (R210), so there is no operation for it. -/
def State.deliverEvent (s : State) : Instr := decodeState s.state.code

end Sys2Proof.Machine
end

