-- ==== Sys2Proof/Machine/BusReset.lean ====
section
/-! DEFINITION. The micro-steps of the bus reset (R108 to R111). -/

namespace Sys2Proof.Machine

/-- `ResetPulse` (R108). -/
def execStResetPulse (s : State) : Host.Outcome State Fault Refusal :=
  .next (((s.setLine .low).setTimerTo s.config.tRstLow).toState .resetRelease)

/-- `ResetRelease` (R109). -/
def execStResetRelease (s : State) : Host.Outcome State Fault Refusal :=
  .next (((s.setLine .released).setTimerTo s.config.tPresWait).toState .resetSample)

/-- `ResetSample` (R110): bit 7 is the presence result, 0 = device present. -/
def execStResetSample (s : State) : Host.Outcome State Fault Refusal :=
  .next (((s.afterSample.shiftInBit s.sampleBit).setTimerTo s.config.tRstRec).toState .resetRecover)

/-- `ResetRecover` (R111). -/
def execStResetRecover (s : State) : Host.Outcome State Fault Refusal :=
  .next ((s.setTimerTo s.config.tIdle).toState .idle)

end Sys2Proof.Machine
end

