-- ==== Sys2Proof/Machine/Delays.lean ====
section
/-! DEFINITION. The micro-steps of the delays and of the strong pullup (R112 to R118), and the delay commands
(R160 to R163). -/

namespace Sys2Proof.Machine

/-- The set-up of a delay at resolution `res` (R112 to R114). -/
def setUpDelay (s : State) (res : Resolution) : Host.Outcome State Fault Refusal :=
  .next ((s.setTimer res (fullCount s.reloadTicks)).toState .delaying)

/-- One counted event of a delay or a pullup: `reloadPeriod` is decremented modulo 65536 and tested; `done` is
what the last event does besides the return to `Idle` (R115, R118). -/
def countEvent (s : State) (done : State → State) : Host.Outcome State Fault Refusal :=
  if periodOver s.reloadPeriod then
    .next (((done { s with reloadPeriod := s.reloadPeriod - 1 }).setTimerTo s.config.tIdle).toState .idle)
  else
    .next ({ s with reloadPeriod := s.reloadPeriod - 1 }.setTimer s.timerRes (fullCount s.reloadTicks))

/-- `Delay1` (R112). -/
def execStDelay1 (s : State) : Host.Outcome State Fault Refusal := setUpDelay s .r1

/-- `Delay8` (R113). -/
def execStDelay8 (s : State) : Host.Outcome State Fault Refusal := setUpDelay s .r8

/-- `Delay128` (R114). -/
def execStDelay128 (s : State) : Host.Outcome State Fault Refusal := setUpDelay s .r128

/-- `Delaying` (R115). -/
def execStDelaying (s : State) : Host.Outcome State Fault Refusal := countEvent s id

/-- `DelayEnd` (R116): the spec's own micro-step for a state that no rule enters. -/
def execStDelayEnd (s : State) : Host.Outcome State Fault Refusal :=
  .next (((s.setLine .released).setTimerTo s.config.tIdle).toState .idle)

/-- `StrongPullup` (R117). -/
def execStStrongPullup (s : State) : Host.Outcome State Fault Refusal :=
  .next (({ s.setLine .high with
      reloadTicks := BitVec.ofNat 8 s.config.spuCounts
      reloadPeriod := BitVec.ofNat 16 s.config.spuEvents }.setTimer .r128 s.config.spuCounts).toState
    .strongPullupDelay)

/-- `StrongPullupDelay` (R118). -/
def execStStrongPullupDelay (s : State) : Host.Outcome State Fault Refusal :=
  countEvent s (fun s => s.setLine .released)

/-- DELAY1 (R160). -/
def execDelay1 (a : Byte) (b : HWord) (s : State) : Host.Outcome State Fault Refusal :=
  armAndReturn s (fun s => s.armDelay .delay1 a b)

/-- DELAY8 (R161). -/
def execDelay8 (a : Byte) (b : HWord) (s : State) : Host.Outcome State Fault Refusal :=
  armAndReturn s (fun s => s.armDelay .delay8 a b)

/-- DELAY128 (R162). -/
def execDelay128 (a : Byte) (b : HWord) (s : State) : Host.Outcome State Fault Refusal :=
  armAndReturn s (fun s => s.armDelay .delay128 a b)

/-- SPUDELAY (R163): no field is loaded by the front end. -/
def execSpudelay (s : State) : Host.Outcome State Fault Refusal :=
  armAndReturn s (fun s => s.toState .strongPullup)

end Sys2Proof.Machine
end

