-- ==== Sys2Proof/Machine/Driver.lean ====
section
/-! DEFINITION. The commands of the Byte/Bit Driver (R144 to R151) and INIT (R143, R230). -/

namespace Sys2Proof.Machine

/-- INIT (R143, R230): one atomic step with no gate. While an operation is in flight it is refused "after the first
INIT" (R219 (b)). DESIGN CHOICE: the reset input counts as the first INIT here, so a block that only the reset
input has initialised refuses it too (log entry 17). -/
def execInit (s : State) : Host.Outcome State Fault Refusal :=
  if s.initialised && !s.isIdle then .refused .initInFlight else .next s.resetBlock

/-- WRBIT (R144). -/
def execWrbit (a : Byte) (s : State) : Host.Outcome State Fault Refusal :=
  armAndReturn s (fun s => s.armSlots (lowBit a) 1)

/-- RDBIT (R145). -/
def execRdbit (s : State) : Host.Outcome State Fault Refusal :=
  armAndCollect s (fun s => s.armSlots 0x01 1) (fun s => boolByte s.sampledBit)

/-- WRBYTE (R146). -/
def execWrbyte (a : Byte) (s : State) : Host.Outcome State Fault Refusal :=
  armAndReturn s (fun s => s.armSlots a 8)

/-- RDBYTE (R147). -/
def execRdbyte (s : State) : Host.Outcome State Fault Refusal :=
  armAndCollect s (fun s => s.armSlots 0xFF 8) (fun s => s.shiftRegister)

/-- RESET (R148): no field is loaded; the value is the presence. -/
def execReset (s : State) : Host.Outcome State Fault Refusal :=
  armAndCollect s (fun s => s.toState .resetPulse) (fun s => boolByte s.presence)

/-- ISIDLE (R150): no gate. -/
def execIsidle (s : State) : Host.Outcome State Fault Refusal :=
  .next (s.ret (boolByte s.isIdle))

/-- RDREG (R151): no gate, no side effect. -/
def execRdreg (a : Byte) (s : State) : Host.Outcome State Fault Refusal :=
  .next (s.ret (s.window a))

end Sys2Proof.Machine
end

