-- ==== Sys2Proof/Machine/Search.lean ====
section
/-! DEFINITION. The CRC-8 functions (R170, R171) and the search commands (R172 to R184). -/

namespace Sys2Proof.Machine

/-- One of the eight iterations of `crc8Update`: the oddness is tested before the shift (R170). -/
def crcShift (c : Byte) : Byte := if c.getLsbD 0 then (c >>> 1) ^^^ 0x8C else c >>> 1

/-- `crc8Update(running, byte)` (R170). -/
def crc8Update (running byte : Byte) : Byte :=
  crcShift (crcShift (crcShift (crcShift (crcShift (crcShift (crcShift (crcShift (running ^^^ byte))))))))

/-- `checkCrc(bytes)`: the fold of `crc8Update` seeded with 0 (R171). -/
def checkCrc (bytes : List Byte) : Byte := bytes.foldl crc8Update 0x00

/-- CRC8UPD (R170): no gate; `A` is the data byte and `B[7:0]` the running value. -/
def execCrc8upd (a : Byte) (b : HWord) (s : State) : Host.Outcome State Fault Refusal :=
  .next (s.ret (crc8Update (lowByte b) a))

/-- SRCHCLR (R173): `ClearBookkeeping`, then `Return(0x00)`; no gate. -/
def execSrchclr (s : State) : Host.Outcome State Fault Refusal :=
  match s.phase with
  | .finish => .next (s.ret 0x00)
  | .start | .search _ => .next (s.clearBookkeeping.atPhase .finish)

/-- The front end goes on to another point of the SEARCH. -/
def State.atSearch (s : State) (p : SearchPoint) : State := s.atPhase (.search p)

/-- An aborted pass: `ClearBookkeeping`, then not found (R175, R177, R183). -/
def State.abortSearch (s : State) : State := s.clearBookkeeping.atSearch .notFound

/-- The test of presence at the start of a pass (R175). -/
def State.testPresence (s : State) : State :=
  if s.presence then s.atSearch (.sendCmd 0) else s.abortSearch

/-- One bit of `SENDBYTE SEARCH_CMD`, bit `i` (R175). -/
def State.sendCmdBit (s : State) (i : Fin 8) : State :=
  (s.armSlots (boolByte (s.config.searchCmd.getLsbD i)) 1).atSearch
    (if i.val = 7 then .beginPass else .sendCmd (i + 1))

/-- `lastZero <- 0; pos <- 1` (R175). -/
def State.beginSearchPass (s : State) : State :=
  { s with lastZero := 0, pos := 1 }.atSearch .probe

/-- `idBit` and `cmpBit` after READ2 (R149). -/
def State.takeProbe (s : State) : State :=
  { s with idBit := s.probeFirst, cmpBit := s.sampledBit }.atSearch .choose

/-- The direction at a discrepancy (R179): the 1 branch where the previous pass took the 0 branch last, the 0
branch past that position, the recorded bit before it. -/
def State.branch (s : State) : Bool :=
  if s.pos.toNat = s.lastDiscrepancy.toNat then true
  else if s.pos.toNat > s.lastDiscrepancy.toNat then false
  else s.getIdBit s.pos

/-- The record of a 0 branch taken at a discrepancy (R180). -/
def State.recordZero (s : State) : State :=
  { s with
    lastZero := s.pos.setWidth 8
    lastFamilyDiscrepancy := if s.pos.toNat ≤ 8 then s.pos.setWidth 8 else s.lastFamilyDiscrepancy }

/-- The choice of the direction by the probe code (R177 to R180). -/
def State.chooseDirection (s : State) : State :=
  if s.noResponse then s.abortSearch
  else if s.agreed then { s with dir := s.idBit }.atSearch .record
  else if s.branch then { s with dir := true }.atSearch .record
  else { s.recordZero with dir := false }.atSearch .record

/-- `pos <- pos + 1`; the pass ends after `pos == 64` (R181, R65). -/
def State.advancePos (s : State) : State :=
  if s.pos = 64 then s.atSearch .endPass else { s with pos := s.pos + 1 }.atSearch .probe

/-- The end of a pass (R182). -/
def State.finishPass (s : State) : State :=
  { s with
    lastDiscrepancy := s.lastZero
    lastDeviceFlag := s.lastZero == 0 || s.lastDeviceFlag }.atSearch .crcCheck

/-- The CRC check (R183). -/
def State.checkIdentifier (s : State) : State :=
  if checkCrc s.deviceId.toList = 0x00 then s.atSearch .found else s.abortSearch

/-- One step of a running SEARCH at control point `p` (R184). -/
def searchStep (p : SearchPoint) (s : State) : Host.Outcome State Fault Refusal :=
  match p with
  | .busReset => whenIdle s (fun s => (s.toState .resetPulse).atSearch .presence)
  | .presence => whenIdle s State.testPresence
  | .sendCmd i => whenIdle s (fun s => s.sendCmdBit i)
  | .beginPass => .next s.beginSearchPass
  | .probe => whenIdle s (fun s => (s.armSlots 0x03 2).atSearch .readProbe)
  | .readProbe => whenIdle s State.takeProbe
  | .choose => .next s.chooseDirection
  | .record => .next ((s.setIdBit s.pos s.dir).atSearch .writeBack)
  | .writeBack => whenIdle s (fun s => (s.armSlots (boolByte s.dir) 1).atSearch .advance)
  | .advance => .next s.advancePos
  | .endPass => .next s.finishPass
  | .crcCheck => .next s.checkIdentifier
  | .notFound => .next (s.ret 0x00)
  | .found => .next (s.ret 0x01)

/-- SEARCH (R184). Its first step returns not found at once where `lastDeviceFlag` is set (R174). -/
def execSearch (s : State) : Host.Outcome State Fault Refusal :=
  match s.phase with
  | .search p => searchStep p s
  | .start | .finish => if s.lastDeviceFlag then .next (s.ret 0x00) else .next (s.atSearch .busReset)

end Sys2Proof.Machine
end

