-- ==== Sys2Proof/Machine/Slots.lean ====
section
/-! DEFINITION. The micro-steps of `Idle` and of the bit slots (R103 to R107). -/

namespace Sys2Proof.Machine

/-- `Idle` (R103). -/
def execStIdle (s : State) : Host.Outcome State Fault Refusal :=
  .next (s.setTimerTo s.config.tIdle)

/-- `StartBit` (R104). -/
def execStStartBit (s : State) : Host.Outcome State Fault Refusal :=
  if s.outBit then .next (((s.setLine .low).setTimerTo s.config.tW1Low).toState .readWait)
  else .next (((s.setLine .low).setTimerTo s.config.tW0Low).toState .release)

/-- `ReadWait` (R105). -/
def execStReadWait (s : State) : Host.Outcome State Fault Refusal :=
  .next (((s.setLine .released).setTimerTo s.config.tRdWait).toState .sample)

/-- `Sample` (R106). -/
def execStSample (s : State) : Host.Outcome State Fault Refusal :=
  .next ((s.afterSample.shiftInBit s.sampleBit).setTimerTo s.config.tSlotTail).endSlot

/-- `Release` (R107): the outgoing 0 is consumed here and 0 enters at bit 7. -/
def execStRelease (s : State) : Host.Outcome State Fault Refusal :=
  .next (((s.setLine .released).shiftInBit false).setTimerTo s.config.tW0Rec).endSlot

end Sys2Proof.Machine
end

