-- ==== Sys2Proof/Machine/Dispatch.lean ====
section
/-! DEFINITION. The meaning of every instruction, one arm each. -/

namespace Sys2Proof.Machine

def exec (i : Instr) (s : State) : Host.Outcome State Fault Refusal :=
  match i with
  | .init => Sys2Proof.Machine.execInit s
  | .wrbit a => Sys2Proof.Machine.execWrbit a s
  | .rdbit => Sys2Proof.Machine.execRdbit s
  | .wrbyte a => Sys2Proof.Machine.execWrbyte a s
  | .rdbyte => Sys2Proof.Machine.execRdbyte s
  | .reset => Sys2Proof.Machine.execReset s
  | .delay1 a b => Sys2Proof.Machine.execDelay1 a b s
  | .delay8 a b => Sys2Proof.Machine.execDelay8 a b s
  | .delay128 a b => Sys2Proof.Machine.execDelay128 a b s
  | .spudelay => Sys2Proof.Machine.execSpudelay s
  | .search => Sys2Proof.Machine.execSearch s
  | .srchclr => Sys2Proof.Machine.execSrchclr s
  | .isidle => Sys2Proof.Machine.execIsidle s
  | .crc8upd a b => Sys2Proof.Machine.execCrc8upd a b s
  | .rdreg a => Sys2Proof.Machine.execRdreg a s
  | .stIdle => Sys2Proof.Machine.execStIdle s
  | .stStartBit => Sys2Proof.Machine.execStStartBit s
  | .stReadWait => Sys2Proof.Machine.execStReadWait s
  | .stSample => Sys2Proof.Machine.execStSample s
  | .stRelease => Sys2Proof.Machine.execStRelease s
  | .stResetPulse => Sys2Proof.Machine.execStResetPulse s
  | .stResetRelease => Sys2Proof.Machine.execStResetRelease s
  | .stResetSample => Sys2Proof.Machine.execStResetSample s
  | .stResetRecover => Sys2Proof.Machine.execStResetRecover s
  | .stDelay1 => Sys2Proof.Machine.execStDelay1 s
  | .stDelay8 => Sys2Proof.Machine.execStDelay8 s
  | .stDelay128 => Sys2Proof.Machine.execStDelay128 s
  | .stDelaying => Sys2Proof.Machine.execStDelaying s
  | .stDelayEnd => Sys2Proof.Machine.execStDelayEnd s
  | .stStrongPullup => Sys2Proof.Machine.execStStrongPullup s
  | .stStrongPullupDelay => Sys2Proof.Machine.execStStrongPullupDelay s

end Sys2Proof.Machine
end

