-- ==== Sys2Proof/Machine/Sequencer.lean ====
section
/-! DEFINITION. What moves next: the interleaving of the engine's events and the front end's steps (R70), the
gate that holds the front end (R141), and the acceptance of a command (R140). -/

namespace Sys2Proof.Machine

/-- The points of a SEARCH that begin with `AwaitIdle` (R184: "each sub-step RESET, WRBIT, READ2 has its own
`AwaitIdle`"). -/
def SearchPoint.gated : SearchPoint → Bool
  | .busReset | .presence | .sendCmd _ | .probe | .readProbe | .writeBack => true
  | .beginPass | .choose | .record | .advance | .endPass | .crcCheck | .notFound | .found => false

/-- The commands whose first step is `AwaitIdle` (R144 to R148, R160 to R163). -/
def gatedAtStart : Instr → Bool
  | .wrbit _ | .rdbit | .wrbyte _ | .rdbyte | .reset | .delay1 _ _ | .delay8 _ _ | .delay128 _ _ | .spudelay => true
  | .init | .search | .srchclr | .isidle | .crc8upd _ _ | .rdreg _ => false
  | .stIdle | .stStartBit | .stReadWait | .stSample | .stRelease | .stResetPulse | .stResetRelease
  | .stResetSample | .stResetRecover | .stDelay1 | .stDelay8 | .stDelay128 | .stDelaying | .stDelayEnd
  | .stStrongPullup | .stStrongPullupDelay => false

/-- The commands that wait for `Idle` again before they return (R145, R147, R148). -/
def gatedAtFinish : Instr → Bool
  | .rdbit | .rdbyte | .reset => true
  | .init | .wrbit _ | .wrbyte _ | .delay1 _ _ | .delay8 _ _ | .delay128 _ _ | .spudelay
  | .search | .srchclr | .isidle | .crc8upd _ _ | .rdreg _ => false
  | .stIdle | .stStartBit | .stReadWait | .stSample | .stRelease | .stResetPulse | .stResetRelease
  | .stResetSample | .stResetRecover | .stDelay1 | .stDelay8 | .stDelay128 | .stDelaying | .stDelayEnd
  | .stStrongPullup | .stStrongPullupDelay => false

/-- Whether command `i` at phase `p` begins with `AwaitIdle` (R141). -/
def gatedAt (i : Instr) (p : Phase) : Bool :=
  match p with
  | .start => gatedAtStart i
  | .finish => gatedAtFinish i
  | .search q => q.gated

/-- Whether the front end is inside a command. In a block that was never initialised `cmdBusy` is an unspecified
bit and holds nothing back (R231). -/
def State.running (s : State) : Bool := s.initialised && s.cmdBusy

/-- Whether the front end has a step: the next one of its command, unless `AwaitIdle` holds it (R141), or the
acceptance of a command the host presents (R140). -/
def State.frontEndReady (s : State) : Bool :=
  if s.running then
    match decodeCmd s.cmdWord with
    | .ok i => !gatedAt i s.phase || s.isIdle
    | .error _ => true
  else !s.hostCommands.isEmpty

/-- Whether the turn goes to the front end: by the schedule, or by a free value where it lists nothing (R70). -/
def State.turnToFrontEnd (s : State) : Bool :=
  match s.schedule with
  | .frontEnd :: _ => true
  | .engine :: _ | .resetInput :: _ => false
  | [] => !Config.freeTurn s.turnCount

/-- One turn has been taken. -/
def State.tick (s : State) : State := { s with schedule := s.schedule.tail, turnCount := s.turnCount + 1 }

/-- The acceptance of command word `w` (R140): `cmdBusy` is set and the command stands at its first step. -/
def State.accept (s : State) (w : CmdWord) : State :=
  { s with cmdBusy := true, cmdWord := w, phase := .start, hostCommands := s.hostCommands.tail }

/-- What a turn leads to: an instruction to execute, a state reached with no instruction (the reset input), or a
refusal. -/
inductive Fetched where
  | run (i : Instr) (s : State)
  | settled (s : State)
  | stop (r : Refusal)
  deriving DecidableEq, Repr

/-- A command word the host presents to a free front end: a reserved opcode is refused (R219 (c)), and so is any
command but INIT before the first INIT or reset (R219 (a)); another is accepted. -/
def present (w : CmdWord) (s : State) : Fetched :=
  match decodeCmd w with
  | .error (.reservedOpcode op) => .stop (.reservedOpcode op)
  | .ok i => if s.initialised || i == .init then .run i (s.accept w) else .stop .beforeInit

/-- The front end's turn: the next step of the running command, or a new command. -/
def fetchCommand (s : State) : Fetched :=
  if s.running then
    match decodeCmd s.cmdWord with
    | .error (.reservedOpcode op) => .stop (.reservedOpcode op)
    | .ok i => .run i s
  else
    match s.hostCommands with
    | w :: _ => present w s
    | [] => .run s.deliverEvent s

/-- The next thing the machine does. The reset input acts when the schedule lists it (R230). Where the front end
has no step the engine moves: the next event always comes (R205). -/
def fetch (s : State) : Fetched :=
  match s.schedule with
  | .resetInput :: _ => .settled s.tick.resetBlock
  | .engine :: _ | .frontEnd :: _ | [] =>
    if s.frontEndReady && s.turnToFrontEnd then fetchCommand s.tick else .run s.deliverEvent s.tick

/-- The next event is delivered, with the state code `w` placed in `state` where the block is idle. A harness must not
re-arm while non-idle (R234, R219 (e)), so a block with an operation in flight keeps its `state` (log entry 11). -/
def State.placeStateCode (s : State) (w : Nat) : State :=
  { s with
    state := if s.isIdle then BusState.ofCode (BitVec.ofNat 4 w) else s.state
    schedule := .engine :: s.schedule }

/-- The command word `w` is presented next to a free front end, which has the next turn. -/
def State.placeCommand (s : State) (w : Nat) : State :=
  { s with
    hostCommands := BitVec.ofNat 32 w :: s.hostCommands
    cmdBusy := false
    phase := .start
    schedule := .frontEnd :: s.schedule }

end Sys2Proof.Machine
end

