-- ==== Sys2Proof/Machine/Step.lean ====
section
/-! DEFINITION. One step of the machine: one front-end step or one handler invocation (R70), and where an
instruction is placed so that the next step runs it. -/

namespace Sys2Proof.Machine

/-- One step (R70): the instruction that `fetch` selects is executed. -/
def step (s : State) : Host.Outcome State Fault Refusal :=
  match fetch s with
  | .run i s' => exec i s'
  | .settled s' => .next s'
  | .stop r => .refused r

/-- A STATE row's code is placed in the `state` of an idle block (R234) and the event delivered next; a CMD row's word
is presented to the front end next (log entry 11). -/
def State.withFetchWord (s : State) (nbits w : Nat) : State :=
  if nbits ≤ 8 then s.placeStateCode w else s.placeCommand w

end Sys2Proof.Machine
end

