-- ==== Sys2Proof/WellFormed.lean ====
section
/-! DEFINITION. Which instructions an assembler writes (R84: operand bits a command does not use are 0) and
which parameter sets the spec admits (R10). -/

namespace Sys2Proof

/-- R84: the operand bits that a command's own fields hold and the command does not use are 0: `A[7:1]` of
WRBIT, `B[15:8]` of CRC8UPD. The block itself ignores those bits, so `exec` gives every instruction a meaning. -/
def Instr.WellFormed : Instr → Bool
  | .wrbit a => a >>> 1 == 0
  | .crc8upd _ b => b >>> 8 == 0
  | .init | .rdbit | .wrbyte _ | .rdbyte | .reset | .delay1 _ _ | .delay8 _ _ | .delay128 _ _ | .spudelay
  | .search | .srchclr | .isidle | .rdreg _ => true
  | .stIdle | .stStartBit | .stReadWait | .stSample | .stRelease | .stResetPulse | .stResetRelease
  | .stResetSample | .stResetRecover | .stDelay1 | .stDelay8 | .stDelay128 | .stDelaying | .stDelayEnd
  | .stStrongPullup | .stStrongPullupDelay => true

/-- R10: "`counts` ranges 1 to 256". -/
def TimerSetting.countsOk (t : TimerSetting) : Bool := 1 ≤ t.counts && t.counts ≤ 256

/-- R10: every count is in range, and the number of pullup events fits `reloadPeriod` (0 standing for 65536,
R25). -/
def Config.countsOk (c : Config) : Bool :=
  [c.tIdle, c.tW1Low, c.tRdWait, c.tSlotTail, c.tW0Low, c.tW0Rec, c.tRstLow, c.tPresWait, c.tRstRec].all
    TimerSetting.countsOk
  && (1 ≤ c.spuCounts && c.spuCounts ≤ 256) && (1 ≤ c.spuEvents && c.spuEvents ≤ 65536)

/-- The column "Resolution" of R10's table: every phase uses R1 but the reset pulse, which uses R8. -/
def Config.resolutionsOk (c : Config) : Bool :=
  [c.tIdle, c.tW1Low, c.tRdWait, c.tSlotTail, c.tW0Low, c.tW0Rec, c.tPresWait, c.tRstRec].all
    (fun t => t.res == .r1)
  && c.tRstLow.res == .r8

/-- A parameter set the spec admits (R10). -/
def Config.WellFormed (c : Config) : Bool := c.countsOk && c.resolutionsOk

end Sys2Proof
end

