-- ==== Sys2Proof/Safety.lean ====
section
/-! DEFINITION. Runs of the machine, the number and length of the events an operation takes (R122, R164), and the
invariants of R40 and R41. -/

namespace Sys2Proof

/-- A bit slot is in progress. -/
def BusState.inSlot : BusState → Bool
  | .startBit | .readWait | .sample | .release => true
  | .idle | .resetPulse | .resetRelease | .resetSample | .resetRecover | .delay1 | .delay8 | .delay128
  | .delaying | .delayEnd | .strongPullup | .strongPullupDelay => false

/-- The states in which the block holds the line low (R41 (c)). -/
def BusState.holdsLow : BusState → Bool
  | .readWait | .release | .resetRelease => true
  | .idle | .startBit | .sample | .resetPulse | .resetSample | .resetRecover | .delay1 | .delay8 | .delay128
  | .delaying | .delayEnd | .strongPullup | .strongPullupDelay => false

/-- The resolution that R41 (d) fixes in a state; the delay's own states have none. -/
def BusState.resolution : BusState → Option Resolution
  | .idle | .startBit | .readWait | .sample | .release | .resetPulse | .resetSample | .resetRecover
  | .delay1 | .delay8 | .delay128 | .strongPullup => some .r1
  | .resetRelease => some .r8
  | .strongPullupDelay => some .r128
  | .delaying | .delayEnd => none

end Sys2Proof

namespace Sys2Proof.Machine

/-- The next thing is done if the outcome so far is a next state. -/
def andThen (o : Host.Outcome State Fault Refusal) (f : State → Host.Outcome State Fault Refusal) :
    Host.Outcome State Fault Refusal :=
  match o with
  | .next s => f s
  | .fault r => .fault r
  | .refused r => .refused r

/-- One handler invocation (R100). -/
def event (s : State) : Host.Outcome State Fault Refusal := exec s.deliverEvent s

/-- `n` handler invocations, with no front-end step between them. -/
def events : Nat → State → Host.Outcome State Fault Refusal
  | 0, s => .next s
  | n + 1, s => andThen (event s) (events n)

/-- `n` steps of the machine. -/
def steps : Nat → State → Host.Outcome State Fault Refusal
  | 0, s => .next s
  | n + 1, s => andThen (step s) (steps n)

/-- The time from the last event to the next one, as the timer outputs request it (R27, R101). -/
def State.requestedMicros (s : State) : Nat := s.timerRes.micros * fullCount s.timerCompare

/-- The time that `n` events take, counted from the event that left state `s` to the `n`-th after it. -/
def elapsedMicros : Nat → State → Nat
  | 0, _ => 0
  | n + 1, s =>
    s.requestedMicros +
      match event s with
      | .next t => elapsedMicros n t
      | .fault _ | .refused _ => 0

/-- The events of `k` slots that send the low `k` bits of `sr`: 3 for a 1, 2 for a 0 (R120). -/
def slotEvents : Nat → Byte → Nat
  | 0, _ => 0
  | k + 1, sr => (if sr.getLsbD 0 then 3 else 2) + slotEvents k (sr >>> 1)

/-- The number of events after which the engine is in `Idle` (R122), for at most 8 slots left. -/
def State.eventsToIdle (s : State) : Nat :=
  match s.state with
  | .idle => 0
  | .startBit => slotEvents s.bitsRemaining.toNat s.shiftRegister
  | .readWait => 2 + slotEvents (s.bitsRemaining.toNat - 1) (s.shiftRegister >>> 1)
  | .sample | .release => 1 + slotEvents (s.bitsRemaining.toNat - 1) (s.shiftRegister >>> 1)
  | .resetPulse => 4
  | .resetRelease => 3
  | .resetSample => 2
  | .resetRecover => 1
  | .delay1 | .delay8 | .delay128 => 1 + fullPeriod s.reloadPeriod
  | .delaying => fullPeriod s.reloadPeriod
  | .delayEnd => 1
  | .strongPullup => 1 + fullPeriod (BitVec.ofNat 16 s.config.spuEvents)
  | .strongPullupDelay => fullPeriod s.reloadPeriod

/-- The engine's part of R41: (a) to (e), and that a slot in progress has 1 to 8 slots left (R23, R121). -/
structure EngineInv (s : State) : Prop where
  idleReleased : s.state = .idle → s.lineDrive = .released
  highIff : s.lineDrive = .high ↔ s.state = .strongPullupDelay
  lowIff : s.lineDrive = .low ↔ s.state.holdsLow = true
  resolution : ∀ r, s.state.resolution = some r → s.timerRes = r
  notDelayEnd : s.state ≠ .delayEnd
  slotsLeft : s.state.inSlot = true → 1 ≤ s.bitsRemaining.toNat ∧ s.bitsRemaining.toNat ≤ 8

/-- The points of a SEARCH at which `pos` names a position. -/
def SearchPoint.atPosition : SearchPoint → Bool
  | .probe | .readProbe | .choose | .record | .writeBack | .advance => true
  | .busReset | .presence | .sendCmd _ | .beginPass | .endPass | .crcCheck | .notFound | .found => false

/-- The points of a SEARCH up to the end of its pass. -/
def SearchPoint.inPass : SearchPoint → Bool
  | .busReset | .presence | .sendCmd _ | .beginPass | .endPass => true
  | .probe | .readProbe | .choose | .record | .writeBack | .advance => true
  | .crcCheck | .notFound | .found => false

/-- The search record's part of R41, (f), with what a running SEARCH adds: `pos` is 1 to 64 while it names a
position (R35), and a pass runs only while `lastDeviceFlag` is clear (R174). -/
structure SearchInv (s : State) : Prop where
  discrepancy : s.lastDiscrepancy.toNat ≤ 64
  zero : s.lastZero.toNat ≤ 64
  family : s.lastFamilyDiscrepancy.toNat ≤ 8
  lastDevice : s.lastDeviceFlag = true → s.lastDiscrepancy = 0
  position : ∀ p, s.phase = .search p → p.atPosition = true → 1 ≤ s.pos.toNat ∧ s.pos.toNat ≤ 64
  passOpen : ∀ p, s.phase = .search p → p.inPass = true → s.lastDeviceFlag = false

/-- The machine's invariant: admitted parameters (R10), R41, and that a SEARCH about to return found holds an
identifier that passes the CRC check (R183). -/
structure Inv (s : State) : Prop where
  parameters : s.config.WellFormed = true
  engine : EngineInv s
  search : SearchInv s
  found : s.phase = .search .found → checkCrc s.deviceId.toList = 0x00

end Sys2Proof.Machine
end

