-- ==== Sys2Proof/Certificates/Slice0/Obligations.lean ====
section
/-! DEFINITION. The statements for the provers, each a proposition about the model. Where a docstring names a log
entry, that part of the statement is the model's choice; where it names a decision D<n> or a derived rule, it is
the spec's own. -/

open Sys2Proof Sys2Proof.Machine

/-! ### Encodings -/

/-- R80, R82, R86: the decoder gives back every instruction the encoder writes, with every operand (log entry 11
for the two formats). -/
def Obligations.DecodeOfEncodeIsTheInstruction : Prop :=
  ∀ i : Instr, decode (encode i) = .ok i

/-- R84 (decision D26): the operand bits a command does not use are ignored: with them cleared the word decodes to
an assembler's instruction, which the encoder writes as that word and which does the same in every state. -/
def Obligations.UnusedOperandBitsAreIgnored : Prop :=
  ∀ (w : CmdWord) (i : Instr), decodeCmd w = .ok i →
    ∃ j : Instr, decodeCmd (w &&& usedBits i) = .ok j ∧ j.WellFormed = true
      ∧ encode j = .cmd (w &&& usedBits i) ∧ ∀ s : State, exec j s = exec i s

/-- R83 (decision D26): exactly the words with `op` 0x00 or 0x10 to 0xFF select no command, and the rejection
names `op`. -/
def Obligations.DecoderRejectsExactlyReservedOpcodes : Prop :=
  ∀ w : CmdWord,
    (w.toNat % 256 = 0 ∨ 16 ≤ w.toNat % 256 → decodeCmd w = .error (.reservedOpcode (BitVec.ofNat 8 w.toNat)))
      ∧ (1 ≤ w.toNat % 256 ∧ w.toNat % 256 ≤ 15 → ∃ i, decodeCmd w = .ok i)

/-- R82, R86, R91: words and state codes the spec writes out decode to the instructions they stand for. -/
def Obligations.SpecWordsDecode : Prop :=
  decodeCmd 0x0000CC04#32 = .ok (.wrbyte 0xCC) ∧ decodeCmd 0x00037D08#32 = .ok (.delay8 125 3)
    ∧ decodeCmd 0x0028FA09#32 = .ok (.delay128 250 40) ∧ decodeCmd 0x009D500E#32 = .ok (.crc8upd 0x50 0x9D)
    ∧ decodeCmd 0x00001B0F#32 = .ok (.rdreg 0x1B) ∧ decodeCmd 0x0000000B#32 = .ok .search
    ∧ decodeState 0x3#4 = .stSample ∧ decodeState 0xD#4 = .stDelayEnd ∧ decodeState 0xF#4 = .stStrongPullupDelay

/-! ### The step -/

/-- R140, R143, R219 (a), R70: a step at which the front end is free and has the turn accepts the next command the
host presents and executes it: what the step adds is the turn taken, `cmdBusy` set, the word held and the command at
its first step. A block never reset or initialised so accepts INIT, whatever `cmdBusy` holds. Where no turn is listed
the step is this one or the engine's micro-step, whatever the free turn is (log entries 1, 3, 5, 6, 7). -/
def Obligations.StepRunsThePresentedCommand : Prop :=
  ∀ (s : State) (w : CmdWord) (ws : List CmdWord) (i : Instr),
    (s.initialised = true ∧ s.cmdBusy = false ∨ s.initialised = false ∧ i = .init) →
      s.hostCommands = w :: ws → decodeCmd w = .ok i →
      let taken : State := { s with schedule := s.schedule.tail, turnCount := s.turnCount + 1 }
      let accepted : State := { taken with cmdBusy := true, cmdWord := w, phase := .start, hostCommands := ws }
      (s.schedule.head? = some .frontEnd → step s = exec i accepted)
        ∧ (s.schedule = [] → step s = exec i accepted ∨ step s = exec s.state.microStep taken)

/-- R70, R140: a step at which the front end is inside a command that no `AwaitIdle` holds, and has the turn,
executes the command's next step; the step adds only the turn taken. Where no turn is listed the step is this one or
the engine's micro-step, whatever the free turn is (log entries 1, 3, 7). -/
def Obligations.StepContinuesTheAcceptedCommand : Prop :=
  ∀ (s : State) (i : Instr),
    s.initialised = true → s.cmdBusy = true → decodeCmd s.cmdWord = .ok i →
      (gatedAt i s.phase = false ∨ s.state = .idle) →
      let taken : State := { s with schedule := s.schedule.tail, turnCount := s.turnCount + 1 }
      (s.schedule.head? = some .frontEnd → step s = exec i taken)
        ∧ (s.schedule = [] → step s = exec i taken ∨ step s = exec s.state.microStep taken)

/-- R100, R74: a step at which the engine has the turn executes the micro-step that the code in `state` selects;
the step adds only the turn taken. -/
def Obligations.StepRunsTheMicroStepOfTheStateCode : Prop :=
  ∀ (s : State) (turns : List Turn), s.schedule = .engine :: turns →
    step s = exec (decodeState s.state.code) { s with schedule := turns, turnCount := s.turnCount + 1 }

/-- R141, R205: while `AwaitIdle` holds a command, and while the host has presented nothing, the next thing that
happens is an event, whatever the turns say (the reset input excepted): the front end has no step. -/
def Obligations.HeldFrontEndLeavesTheTurnToTheEngine : Prop :=
  ∀ s : State, s.schedule.head? ≠ some .resetInput →
    ((∃ i, s.initialised = true ∧ s.cmdBusy = true ∧ decodeCmd s.cmdWord = .ok i ∧ gatedAt i s.phase = true
        ∧ s.state ≠ .idle)
      ∨ (s.cmdBusy = false ∧ s.hostCommands = [])) →
    step s = exec s.state.microStep { s with schedule := s.schedule.tail, turnCount := s.turnCount + 1 }

/-- R219 (a), (b), (c), R143, R152: a free front end that has the turn refuses, by name, a reserved opcode, any
command but INIT before the first INIT or reset, and INIT in flight (after the reset input too: the model's choice, log
entry 17). -/
def Obligations.HostContractViolationsAreRefused : Prop :=
  ∀ (s : State) (w : CmdWord) (ws : List CmdWord) (turns : List Turn),
    s.hostCommands = w :: ws → s.schedule = .frontEnd :: turns → (s.initialised = false ∨ s.cmdBusy = false) →
    (∀ op, decodeCmd w = .error (.reservedOpcode op) → step s = .refused (.reservedOpcode op))
      ∧ (∀ i, decodeCmd w = .ok i → i ≠ .init → s.initialised = false → step s = .refused .beforeInit)
      ∧ (decodeCmd w = .ok .init → s.initialised = true → s.state ≠ .idle → step s = .refused .initInFlight)

/-- R200, R219: no step ends in a fault, and a step is refused only where the turn is not the engine's or the reset
input's and the front end takes a command word of which R219 says so: the next one presented, when it is free, or the
running command's (log entries 13, 17). -/
def Obligations.StepStopsOnlyOnContractViolations : Prop :=
  ∀ s : State,
    (∀ f, step s ≠ .fault f)
      ∧ ∀ r, step s = .refused r →
        (s.schedule = [] ∨ s.schedule.head? = some .frontEnd) ∧
        ∃ w, ((s.initialised = false ∨ s.cmdBusy = false) ∧ w ∈ s.hostCommands.head?
            ∨ s.initialised = true ∧ s.cmdBusy = true ∧ w = s.cmdWord)
          ∧ ((∃ op, decodeCmd w = .error (.reservedOpcode op) ∧ r = .reservedOpcode op)
            ∨ (s.initialised = false ∧ decodeCmd w ≠ .ok .init ∧ r = .beforeInit)
            ∨ (s.initialised = true ∧ decodeCmd w = .ok .init ∧ s.state ≠ .idle ∧ r = .initInFlight))

/-! ### Reset -/

/-- R42: the registers after reset. The values other than `state` and the search record's are decision D18. -/
def Obligations.ResetStateOfTheRegisters : Prop :=
  State.reset.state = .idle ∧ State.reset.shiftRegister = 0x00 ∧ State.reset.bitsRemaining = 0x00
    ∧ State.reset.reloadTicks = 0x00 ∧ State.reset.reloadPeriod = 0x0000
    ∧ State.reset.timerRes = .r1 ∧ State.reset.timerCompare = 20 ∧ State.reset.lineDrive = .released
    ∧ (∀ i, i < 8 → State.reset.idByte i = 0x00)
    ∧ State.reset.lastDiscrepancy = 0 ∧ State.reset.lastFamilyDiscrepancy = 0
    ∧ State.reset.lastDeviceFlag = false ∧ State.reset.lastZero = 0
    ∧ State.reset.pos = 0 ∧ State.reset.idBit = false ∧ State.reset.cmpBit = false ∧ State.reset.dir = false
    ∧ State.reset.result = 0x00 ∧ State.reset.cmdBusy = false

/-- R230: INIT and the reset input do the same thing, in one atomic step: every register takes its reset value
(R42; `timerCompare` the counts of `T_IDLE`), and what stands outside the block stays. INIT does so in an idle
block, and in any block before the first INIT or reset (R231). -/
def Obligations.InitAndResetInputRestoreTheResetValues : Prop :=
  ∀ s : State,
    let cleared : State := { State.reset with
      timerCompare := BitVec.ofNat 8 s.config.tIdle.counts
      hostCommands := s.hostCommands, lineInput := s.lineInput, sampleCount := s.sampleCount
      schedule := s.schedule, turnCount := s.turnCount, config := s.config }
    (s.state = .idle ∨ s.initialised = false → exec .init s = .next cleared)
      ∧ ∀ turns, s.schedule = .resetInput :: turns →
        step s = .next { cleared with schedule := turns, turnCount := s.turnCount + 1 }

/-! ### The micro-steps of the engine -/

/-- R103, R105: the micro-steps `Idle` and `ReadWait`, complete: `Idle` writes the two timer registers with
`T_IDLE` and nothing else (decision D30). That `ReadWait` is an event of its own is decision D6; the default values,
(R1, 20) and (R1, 9), are R10's (decision D11) as `Config` carries them (log entry 4). -/
def Obligations.IdleAndReadWaitMicroSteps : Prop :=
  (∀ s : State,
    exec .stIdle s = .next { s with
      timerRes := s.config.tIdle.res, timerCompare := BitVec.ofNat 8 s.config.tIdle.counts }
    ∧ exec .stReadWait s = .next { s with
      lineDrive := .released, state := .sample
      timerRes := s.config.tRdWait.res, timerCompare := BitVec.ofNat 8 s.config.tRdWait.counts })
    ∧ Config.standard.tIdle = ⟨.r1, 20⟩ ∧ Config.standard.tRdWait = ⟨.r1, 9⟩

/-- R104: `StartBit`, complete: the line goes low, and the outgoing bit chooses the low period and the next
state; `shiftRegister` and `bitsRemaining` are not changed (decision D7). -/
def Obligations.StartBitMicroStep : Prop :=
  ∀ s : State,
    (s.shiftRegister.toNat % 2 = 1 → exec .stStartBit s = .next { s with
      lineDrive := .low, state := .readWait
      timerRes := s.config.tW1Low.res, timerCompare := BitVec.ofNat 8 s.config.tW1Low.counts })
    ∧ (s.shiftRegister.toNat % 2 = 0 → exec .stStartBit s = .next { s with
      lineDrive := .low, state := .release
      timerRes := s.config.tW0Low.res, timerCompare := BitVec.ofNat 8 s.config.tW0Low.counts })

/-- R106 (decision D8): `Sample`, complete: the sample enters at bit 7 while the other bits move down, the slot is
counted modulo 256, the test is made after the decrement; besides the named registers only the environment's
input is consumed. It holds for every bit the environment gives. -/
def Obligations.SampleMicroStep : Prop :=
  ∀ s : State, ∃ sr : Byte,
    exec .stSample s = .next { s.afterSample with
      shiftRegister := sr, bitsRemaining := s.bitsRemaining - 1
      state := if s.bitsRemaining = 1 then .idle else .startBit
      timerRes := s.config.tSlotTail.res, timerCompare := BitVec.ofNat 8 s.config.tSlotTail.counts }
    ∧ sr.toNat = (if s.sampleBit then 128 else 0) + s.shiftRegister.toNat / 2

/-- R107 (decisions D7, D8): `Release`, complete: the line is released, the written 0 is consumed and 0 enters at
bit 7, and the slot is counted as in `Sample`; no sample is taken. -/
def Obligations.ReleaseMicroStep : Prop :=
  ∀ s : State, ∃ sr : Byte,
    exec .stRelease s = .next { s with
      lineDrive := .released, shiftRegister := sr, bitsRemaining := s.bitsRemaining - 1
      state := if s.bitsRemaining = 1 then .idle else .startBit
      timerRes := s.config.tW0Rec.res, timerCompare := BitVec.ofNat 8 s.config.tW0Rec.counts }
    ∧ sr.toNat = s.shiftRegister.toNat / 2

/-- R108, R109, R111: the micro-steps `ResetPulse`, `ResetRelease` and `ResetRecover`, complete. -/
def Obligations.BusResetMicroSteps : Prop :=
  ∀ s : State,
    exec .stResetPulse s = .next { s with
      lineDrive := .low, state := .resetRelease
      timerRes := s.config.tRstLow.res, timerCompare := BitVec.ofNat 8 s.config.tRstLow.counts }
    ∧ exec .stResetRelease s = .next { s with
      lineDrive := .released, state := .resetSample
      timerRes := s.config.tPresWait.res, timerCompare := BitVec.ofNat 8 s.config.tPresWait.counts }
    ∧ exec .stResetRecover s = .next { s with
      state := .idle
      timerRes := s.config.tIdle.res, timerCompare := BitVec.ofNat 8 s.config.tIdle.counts }

/-- R110: `ResetSample`, complete. Bit 7 is the source's; that bits 6 to 0 are the old bits 7 to 1 is decision
D10. `bitsRemaining` is not changed. -/
def Obligations.ResetSampleMicroStep : Prop :=
  ∀ s : State, ∃ sr : Byte,
    exec .stResetSample s = .next { s.afterSample with
      shiftRegister := sr, state := .resetRecover
      timerRes := s.config.tRstRec.res, timerCompare := BitVec.ofNat 8 s.config.tRstRec.counts }
    ∧ sr.toNat = (if s.sampleBit then 128 else 0) + s.shiftRegister.toNat / 2

/-- R112, R113, R114, R101: the set-up of a delay, complete: `N(reloadTicks)` counts (256 for 0, decision D13), which
the 8-bit compare register holds as `reloadTicks` itself, at 1, 8 or 128 µs; nothing is seeded (decision D14). -/
def Obligations.DelaySetUpMicroSteps : Prop :=
  ∀ s : State,
    exec .stDelay1 s = .next { s with state := .delaying, timerRes := .r1, timerCompare := s.reloadTicks }
    ∧ exec .stDelay8 s = .next { s with state := .delaying, timerRes := .r8, timerCompare := s.reloadTicks }
    ∧ exec .stDelay128 s = .next { s with state := .delaying, timerRes := .r128, timerCompare := s.reloadTicks }

/-- R115 (decisions D13, D15): `Delaying`, complete: the decrement is modulo 65536 and tested after it. -/
def Obligations.DelayingMicroStep : Prop :=
  ∀ s : State,
    (s.reloadPeriod.toNat = 1 → exec .stDelaying s = .next { s with
      reloadPeriod := 0, state := .idle
      timerRes := s.config.tIdle.res, timerCompare := BitVec.ofNat 8 s.config.tIdle.counts })
    ∧ (s.reloadPeriod.toNat ≠ 1 → exec .stDelaying s = .next { s with
      reloadPeriod := BitVec.ofNat 16 (s.reloadPeriod.toNat + 65535), timerCompare := s.reloadTicks })

/-- R116 (decision D17): `DelayEnd`, complete. No rule enters it, so no run reaches this statement's subject. -/
def Obligations.DelayEndMicroStep : Prop :=
  ∀ s : State, exec .stDelayEnd s = .next { s with
    lineDrive := .released, state := .idle
    timerRes := s.config.tIdle.res, timerCompare := BitVec.ofNat 8 s.config.tIdle.counts }

/-- R117 (decision D16): `StrongPullup`, complete: the one place where the engine seeds the reload registers. -/
def Obligations.StrongPullupMicroStep : Prop :=
  ∀ s : State, exec .stStrongPullup s = .next { s with
    lineDrive := .high, state := .strongPullupDelay
    reloadTicks := BitVec.ofNat 8 s.config.spuCounts, reloadPeriod := BitVec.ofNat 16 s.config.spuEvents
    timerRes := .r128, timerCompare := BitVec.ofNat 8 s.config.spuCounts }

/-- R118: `StrongPullupDelay`, complete: the line is released by the event that finds `reloadPeriod` 0 after the
decrement, and stays HIGH until then. -/
def Obligations.StrongPullupDelayMicroStep : Prop :=
  ∀ s : State,
    (s.reloadPeriod.toNat = 1 → exec .stStrongPullupDelay s = .next { s with
      reloadPeriod := 0, lineDrive := .released, state := .idle
      timerRes := s.config.tIdle.res, timerCompare := BitVec.ofNat 8 s.config.tIdle.counts })
    ∧ (s.reloadPeriod.toNat ≠ 1 → exec .stStrongPullupDelay s = .next { s with
      reloadPeriod := BitVec.ofNat 16 (s.reloadPeriod.toNat + 65535), timerCompare := s.reloadTicks })

/-- R102 (decision D27), R69: what a sample returns, and that sampling changes no register of the block: it only
consumes the environment's next bit, and that only when the line is released. Where the environment lists no bit
it holds for every value of the free one (log entry 2). -/
def Obligations.SampleLineFollowsTheDriver : Prop :=
  ∀ s : State,
    (s.lineDrive = .low → s.sampleBit = false ∧ s.afterSample = s)
    ∧ (s.lineDrive = .high → s.sampleBit = true ∧ s.afterSample = s)
    ∧ (s.lineDrive = .released →
        s.sampleBit = s.lineInput.head?.getD (Config.freeSample s.sampleCount)
        ∧ s.afterSample = { s with lineInput := s.lineInput.tail, sampleCount := s.sampleCount + 1 })

/-! ### The commands of the Byte/Bit Driver and INIT's neighbours -/

/-- R146: WRBYTE, complete in both of its steps, and held while the engine is not idle. -/
def Obligations.WrbyteCommand : Prop :=
  ∀ (a : Byte) (s : State),
    (s.phase = .start → s.state = .idle → exec (.wrbyte a) s = .next { s with
      shiftRegister := a, bitsRemaining := 8, state := .startBit, phase := .finish })
    ∧ (s.phase = .start → s.state ≠ .idle → exec (.wrbyte a) s = .next s)
    ∧ (s.phase = .finish → exec (.wrbyte a) s = .next { s with result := 0x00, cmdBusy := false, phase := .start })

/-- R144: WRBIT, complete. Only `A[0]` is used; that the upper bits are loaded with 0 is decision D9. -/
def Obligations.WrbitCommand : Prop :=
  ∀ (a : Byte) (s : State),
    (s.phase = .start → s.state = .idle → exec (.wrbit a) s = .next { s with
      shiftRegister := BitVec.ofNat 8 (a.toNat % 2), bitsRemaining := 1, state := .startBit, phase := .finish })
    ∧ (s.phase = .start → s.state ≠ .idle → exec (.wrbit a) s = .next s)
    ∧ (s.phase = .finish → exec (.wrbit a) s = .next { s with result := 0x00, cmdBusy := false, phase := .start })

/-- R147: RDBYTE, complete: it arms, is held until `Idle`, and returns `shiftRegister`. -/
def Obligations.RdbyteCommand : Prop :=
  ∀ s : State,
    (s.phase = .start → s.state = .idle → exec .rdbyte s = .next { s with
      shiftRegister := 0xFF, bitsRemaining := 8, state := .startBit, phase := .finish })
    ∧ (s.phase = .finish → s.state = .idle → exec .rdbyte s = .next { s with
      result := s.shiftRegister, cmdBusy := false, phase := .start })
    ∧ (s.phase = .start ∨ s.phase = .finish → s.state ≠ .idle → exec .rdbyte s = .next s)

/-- R145: RDBIT, complete: it returns bit 7; the load value 0x01 is decision D9. -/
def Obligations.RdbitCommand : Prop :=
  ∀ s : State,
    (s.phase = .start → s.state = .idle → exec .rdbit s = .next { s with
      shiftRegister := 0x01, bitsRemaining := 1, state := .startBit, phase := .finish })
    ∧ (s.phase = .finish → s.state = .idle → exec .rdbit s = .next { s with
      result := BitVec.ofNat 8 (s.shiftRegister.toNat / 128), cmdBusy := false, phase := .start })
    ∧ (s.phase = .start ∨ s.phase = .finish → s.state ≠ .idle → exec .rdbit s = .next s)

/-- R148: RESET, complete: no field is loaded, and it returns 0x01 exactly if `shiftRegister[7]` is 0. -/
def Obligations.ResetCommand : Prop :=
  ∀ s : State,
    (s.phase = .start → s.state = .idle → exec .reset s = .next { s with state := .resetPulse, phase := .finish })
    ∧ (s.phase = .finish → s.state = .idle → exec .reset s = .next { s with
      result := if s.shiftRegister.toNat < 128 then 0x01 else 0x00, cmdBusy := false, phase := .start })
    ∧ (s.phase = .start ∨ s.phase = .finish → s.state ≠ .idle → exec .reset s = .next s)

/-- R160, R161, R162, R163: the four delay commands, complete: each stores its operands (SPUDELAY none), arms its
set-up state, and returns 0x00 without waiting (for SPUDELAY decision D20). -/
def Obligations.DelayCommands : Prop :=
  ∀ (a : Byte) (b : HWord) (s : State),
    (s.phase = .start → s.state = .idle →
      exec (.delay1 a b) s = .next { s with reloadTicks := a, reloadPeriod := b, state := .delay1, phase := .finish }
      ∧ exec (.delay8 a b) s = .next { s with reloadTicks := a, reloadPeriod := b, state := .delay8, phase := .finish }
      ∧ exec (.delay128 a b) s = .next { s with
          reloadTicks := a, reloadPeriod := b, state := .delay128, phase := .finish }
      ∧ exec .spudelay s = .next { s with state := .strongPullup, phase := .finish })
    ∧ ∀ i, i = .delay1 a b ∨ i = .delay8 a b ∨ i = .delay128 a b ∨ i = .spudelay →
      (s.phase = .start → s.state ≠ .idle → exec i s = .next s)
      ∧ (s.phase = .finish → exec i s = .next { s with result := 0x00, cmdBusy := false, phase := .start })

/-- R150: ISIDLE, complete, in every state: it never waits and writes `RESULT` only. -/
def Obligations.IsidleCommand : Prop :=
  ∀ s : State,
    (s.state = .idle → exec .isidle s = .next { s with result := 0x01, cmdBusy := false, phase := .start })
    ∧ (s.state ≠ .idle → exec .isidle s = .next { s with result := 0x00, cmdBusy := false, phase := .start })

/-- R151, R62 (decision D3): RDREG, complete, in every state and at every address: it writes `RESULT` only, with the
byte the window's table gives, unused bits and reserved addresses reading 0. -/
def Obligations.RdregReadsTheWindow : Prop :=
  ∀ (a : Byte) (s : State), ∃ v : Byte,
    exec (.rdreg a) s = .next { s with result := v, cmdBusy := false, phase := .start }
    ∧ (a.toNat = 0x00 → BusState.ofCode (v.setWidth 4) = s.state ∧ v.toNat < 16)
    ∧ (a.toNat = 0x01 → v = s.shiftRegister) ∧ (a.toNat = 0x02 → v = s.bitsRemaining)
    ∧ (a.toNat = 0x03 → v = s.reloadTicks)
    ∧ (a.toNat = 0x04 → v.toNat = s.reloadPeriod.toNat % 256) ∧ (a.toNat = 0x05 → v.toNat = s.reloadPeriod.toNat / 256)
    ∧ (a.toNat = 0x06 → v = match s.timerRes with | .r1 => 0 | .r8 => 1 | .r128 => 2)
    ∧ (a.toNat = 0x07 → v = s.timerCompare)
    ∧ (a.toNat = 0x08 → v = match s.lineDrive with | .released => 0 | .low => 1 | .high => 2)
    ∧ (a.toNat = 0x09 → v = s.result)
    ∧ (0x10 ≤ a.toNat → a.toNat ≤ 0x17 → s.deviceId[a.toNat - 0x10]? = some v)
    ∧ (a.toNat = 0x18 → v = s.lastDiscrepancy) ∧ (a.toNat = 0x19 → v = s.lastFamilyDiscrepancy)
    ∧ (a.toNat = 0x1A → v = s.lastZero) ∧ (a.toNat = 0x1B → v = if s.lastDeviceFlag then 1 else 0)
    ∧ (0x0A ≤ a.toNat ∧ a.toNat ≤ 0x0F ∨ 0x1C ≤ a.toNat → v = 0x00)

/-! ### CRC-8 -/

/-- R170: CRC8UPD, complete, in every state: only `RESULT` is written, `B[15:8]` plays no part, and the corner case
`crc8Update(x, x) = 0`. That the host reaches the function is decision D32. -/
def Obligations.Crc8updCommand : Prop :=
  ∀ (a : Byte) (b : HWord) (s : State),
    exec (.crc8upd a b) s = .next { s with
      result := (List.replicate 8 ()).foldl (fun c _ => if c.toNat % 2 = 1 then (c >>> 1) ^^^ 0x8C else c >>> 1)
        (BitVec.ofNat 8 b.toNat ^^^ a)
      cmdBusy := false, phase := .start }
    ∧ crc8Update a a = 0x00

/-- R171: the trailing byte is the check of the bytes before it exactly when the whole buffer folds to zero. -/
def Obligations.TrailingByteIsTheCheckOfTheRest : Prop :=
  ∀ (bytes : List Byte) (c : Byte), checkCrc (bytes ++ [c]) = 0x00 ↔ c = checkCrc bytes

/-- S8-4, R171: in a buffer of 8 bytes that folds to zero, every single-bit mutation is detected. -/
def Obligations.CrcDetectsEverySingleBitMutation : Prop :=
  ∀ (bytes : Vector Byte 8) (i : Fin 8) (k : Nat), k < 8 → checkCrc bytes.toList = 0x00 →
    checkCrc (bytes.set i (bytes[i] ^^^ 1#8 <<< k)).toList ≠ 0x00

/-! ### The search -/

/-- R173: SRCHCLR, complete in both of its steps: the four bookkeeping registers are cleared, `deviceId` is not, and
0x00 is returned; no gate. Which registers `ClearBookkeeping` covers is R172 (decision D23); the two steps and the
control point between them are the model's (log entries 3, 7). -/
def Obligations.SrchclrCommand : Prop :=
  ∀ s : State,
    (s.phase = .start → exec .srchclr s = .next { s with
      lastDiscrepancy := 0, lastFamilyDiscrepancy := 0, lastDeviceFlag := false, lastZero := 0, phase := .finish })
    ∧ (s.phase = .finish → exec .srchclr s = .next { s with result := 0x00, cmdBusy := false, phase := .start })

/-- R174: SEARCH with `lastDeviceFlag` set returns not found at once and changes nothing else; otherwise the pass
starts with the bus reset (R175, decision D21), at a control point of the model's (log entries 3, 7). -/
def Obligations.SearchEntry : Prop :=
  ∀ s : State, s.phase = .start →
    (s.lastDeviceFlag = true → exec .search s = .next { s with result := 0x00, cmdBusy := false, phase := .start })
    ∧ (s.lastDeviceFlag = false → exec .search s = .next { s with phase := .search .busReset })

/-- R175 (decisions D21, D22, D24): the start of a pass: the bus reset, the test of presence, `SEARCH_CMD` low bit
first as eight single-bit writes, then `lastZero` and `pos`, which wait for nothing (log entries 3, 7). -/
def Obligations.SearchStartsThePass : Prop :=
  ∀ s : State,
    (s.state = .idle →
    (s.phase = .search .busReset → exec .search s = .next { s with
      state := .resetPulse, phase := .search .presence })
    ∧ (s.phase = .search .presence → s.shiftRegister.toNat < 128 → exec .search s = .next { s with
      phase := .search (.sendCmd 0) })
    ∧ (s.phase = .search .presence → 128 ≤ s.shiftRegister.toNat → exec .search s = .next { s with
      lastDiscrepancy := 0, lastFamilyDiscrepancy := 0, lastDeviceFlag := false, lastZero := 0
      phase := .search .notFound })
    ∧ (∀ i : Fin 8, s.phase = .search (.sendCmd i) → exec .search s = .next { s with
      shiftRegister := BitVec.ofNat 8 (s.config.searchCmd.toNat / 2 ^ i.val % 2), bitsRemaining := 1
      state := .startBit
      phase := .search (if i.val = 7 then .beginPass else .sendCmd (i + 1)) }))
    ∧ (s.phase = .search .beginPass → exec .search s = .next { s with
      lastZero := 0, pos := 1, phase := .search .probe })

/-- R176, R149: the probe of a position: two read slots (the load value 0x03 is decision D9), then the first slot's
bit and the second's. -/
def Obligations.SearchProbesThePosition : Prop :=
  ∀ s : State, s.state = .idle →
    (s.phase = .search .probe → exec .search s = .next { s with
      shiftRegister := 0x03, bitsRemaining := 2, state := .startBit, phase := .search .readProbe })
    ∧ (s.phase = .search .readProbe → exec .search s = .next { s with
      idBit := decide (s.shiftRegister.toNat / 64 % 2 = 1), cmpBit := decide (s.shiftRegister.toNat / 128 = 1)
      phase := .search .choose })

/-- R177, R178, R179, R180: what the probe code leads to, complete: code 11 aborts; codes 01 and 10 take the bit;
code 00 takes the 1 branch at `lastDiscrepancy`, the 0 branch past it, the recorded bit before it, and records a 0
branch in `lastZero` and, up to position 8, in `lastFamilyDiscrepancy`. That the choice is one step is log entry 7. -/
def Obligations.SearchChoosesByTheProbeCode : Prop :=
  ∀ s : State, s.phase = .search .choose →
    (s.idBit = true → s.cmpBit = true → exec .search s = .next { s with
      lastDiscrepancy := 0, lastFamilyDiscrepancy := 0, lastDeviceFlag := false, lastZero := 0
      phase := .search .notFound })
    ∧ (s.idBit ≠ s.cmpBit → exec .search s = .next { s with dir := s.idBit, phase := .search .record })
    ∧ (s.idBit = false → s.cmpBit = false →
      ∃ d : Bool, exec .search s = .next { s with
          dir := d, phase := .search .record
          lastZero := if d then s.lastZero else BitVec.ofNat 8 s.pos.toNat
          lastFamilyDiscrepancy :=
            if d = false ∧ s.pos.toNat ≤ 8 then BitVec.ofNat 8 s.pos.toNat else s.lastFamilyDiscrepancy }
        ∧ (s.pos.toNat = s.lastDiscrepancy.toNat → d = true)
        ∧ (s.pos.toNat > s.lastDiscrepancy.toNat → d = false)
        ∧ (s.pos.toNat < s.lastDiscrepancy.toNat → d = s.getIdBit s.pos))

/-- R181, R65: the direction is recorded at the position and written back as a single-bit write; the next position
follows, and after 64 the pass ends. The statement covers the positions 1 to 64, the only ones that are formed. -/
def Obligations.SearchRecordsAndWritesBack : Prop :=
  ∀ s : State, 1 ≤ s.pos.toNat → s.pos.toNat ≤ 64 →
    (s.phase = .search .record → ∃ ids : Vector Byte 8,
      exec .search s = .next { s with deviceId := ids, phase := .search .writeBack }
      ∧ ∀ k : Nat, k < 64 → ((ids[k / 8]?).getD 0).getLsbD (k % 8)
          = if k + 1 = s.pos.toNat then s.dir else (s.idByte (k / 8)).getLsbD (k % 8))
    ∧ (s.phase = .search .writeBack → s.state = .idle → exec .search s = .next { s with
      shiftRegister := if s.dir then 0x01 else 0x00, bitsRemaining := 1, state := .startBit
      phase := .search .advance })
    ∧ (s.phase = .search .advance → s.pos.toNat < 64 → exec .search s = .next { s with
      pos := BitVec.ofNat 7 (s.pos.toNat + 1), phase := .search .probe })
    ∧ (s.phase = .search .advance → s.pos.toNat = 64 → exec .search s = .next { s with phase := .search .endPass })

/-- R182, R183: the end of a pass and the CRC check, complete, with the return of found and not found. That the two
writes of R182 are one step is log entry 7. -/
def Obligations.SearchEndsThePass : Prop :=
  ∀ s : State,
    (s.phase = .search .endPass → exec .search s = .next { s with
      lastDiscrepancy := s.lastZero, lastDeviceFlag := if s.lastZero = 0 then true else s.lastDeviceFlag
      phase := .search .crcCheck })
    ∧ (s.phase = .search .crcCheck → checkCrc s.deviceId.toList = 0x00 →
      exec .search s = .next { s with phase := .search .found })
    ∧ (s.phase = .search .crcCheck → checkCrc s.deviceId.toList ≠ 0x00 → exec .search s = .next { s with
      lastDiscrepancy := 0, lastFamilyDiscrepancy := 0, lastDeviceFlag := false, lastZero := 0
      phase := .search .notFound })
    ∧ (s.phase = .search .found → exec .search s = .next { s with
      result := 0x01, cmdBusy := false, phase := .start })
    ∧ (s.phase = .search .notFound → exec .search s = .next { s with
      result := 0x00, cmdBusy := false, phase := .start })

/-- R184, R141: a running SEARCH is held, with nothing changed, at every sub-step that begins with `AwaitIdle` while
the engine is not idle. -/
def Obligations.SearchIsHeldAtItsGates : Prop :=
  ∀ (s : State) (p : SearchPoint), s.phase = .search p → p.gated = true → s.state ≠ .idle → exec .search s = .next s

/-- R13, R65: `SetIdBit(p, v)` writes the one bit at position `p` and leaves the other 63. -/
def Obligations.SetIdBitWritesOneBit : Prop :=
  ∀ (s : State) (p q : BitVec 7) (v : Bool), 1 ≤ p.toNat → p.toNat ≤ 64 → 1 ≤ q.toNat → q.toNat ≤ 64 →
    (s.setIdBit p v).getIdBit q = if q = p then v else s.getIdBit q

/-! ### Laws of the whole machine -/

/-- R119 (derived there from R103 to R118): the complete transition relation of `state` under engine steps. -/
def Obligations.EngineTransitionRelation : Prop :=
  ∀ s : State, ∃ t : State, event s = .next t ∧
    match s.state with
    | .idle => t.state = .idle
    | .startBit => t.state = if s.shiftRegister.toNat % 2 = 1 then .readWait else .release
    | .readWait => t.state = .sample
    | .sample | .release => t.state = if s.bitsRemaining.toNat = 1 then .idle else .startBit
    | .resetPulse => t.state = .resetRelease
    | .resetRelease => t.state = .resetSample
    | .resetSample => t.state = .resetRecover
    | .resetRecover => t.state = .idle
    | .delay1 | .delay8 | .delay128 => t.state = .delaying
    | .delaying => t.state = if s.reloadPeriod.toNat = 1 then .idle else .delaying
    | .delayEnd => t.state = .idle
    | .strongPullup => t.state = .strongPullupDelay
    | .strongPullupDelay => t.state = if s.reloadPeriod.toNat = 1 then .idle else .strongPullupDelay

/-- R124 (derived there from R103 to R118), R100: what the engine never does: it writes no register of
`SearchSession`, no search working register and no front-end register; it drives HIGH only in the strong pullup;
it changes `bitsRemaining` and `reloadTicks` only where R124 says, `reloadPeriod` only in the counted events and in
`StrongPullup`; and it takes at most one bit of the environment's input, that in the two sampling micro-steps. It touches none of
the model's own fields besides (log entries 1 to 6). -/
def Obligations.WhatTheEngineNeverDoes : Prop :=
  ∀ s t : State, event s = .next t →
    t.deviceId = s.deviceId ∧ t.lastDiscrepancy = s.lastDiscrepancy
    ∧ t.lastFamilyDiscrepancy = s.lastFamilyDiscrepancy ∧ t.lastDeviceFlag = s.lastDeviceFlag
    ∧ t.lastZero = s.lastZero ∧ t.pos = s.pos ∧ t.idBit = s.idBit ∧ t.cmpBit = s.cmpBit ∧ t.dir = s.dir
    ∧ t.result = s.result ∧ t.cmdBusy = s.cmdBusy ∧ t.cmdWord = s.cmdWord ∧ t.phase = s.phase
    ∧ t.initialised = s.initialised ∧ t.hostCommands = s.hostCommands ∧ t.config = s.config
    ∧ (t.lineDrive = .high → s.state = .strongPullup ∨ s.lineDrive = .high)
    ∧ (t.bitsRemaining ≠ s.bitsRemaining → s.state = .sample ∨ s.state = .release)
    ∧ (t.shiftRegister ≠ s.shiftRegister → s.state = .sample ∨ s.state = .release ∨ s.state = .resetSample)
    ∧ (t.reloadTicks ≠ s.reloadTicks → s.state = .strongPullup)
    ∧ (t.reloadPeriod ≠ s.reloadPeriod →
        s.state = .strongPullup ∨ s.state = .delaying ∨ s.state = .strongPullupDelay)
    ∧ t.schedule = s.schedule ∧ t.turnCount = s.turnCount
    ∧ (t.sampleCount ≠ s.sampleCount ∨ t.lineInput ≠ s.lineInput → s.state = .sample ∨ s.state = .resetSample)
    ∧ (t.sampleCount = s.sampleCount ∧ t.lineInput = s.lineInput
      ∨ t.sampleCount = s.sampleCount + 1 ∧ t.lineInput = s.lineInput.tail)

/-- R40, R70, R142, R212: the state gate: a step of any command but INIT changes nothing of `EngineContext` while
the engine is not idle, and moves `state` only from `Idle` to one of the six armed states; it never touches the
timer registers, the line or the environment's input. -/
def Obligations.FrontEndWritesEngineContextOnlyInIdle : Prop :=
  ∀ (w : CmdWord) (i : Instr) (s t : State), decodeCmd w = .ok i → i ≠ .init → exec i s = .next t →
    (s.state ≠ .idle →
      t.state = s.state ∧ t.shiftRegister = s.shiftRegister ∧ t.bitsRemaining = s.bitsRemaining
      ∧ t.reloadTicks = s.reloadTicks ∧ t.reloadPeriod = s.reloadPeriod)
    ∧ (t.state ≠ s.state → s.state = .idle ∧ t.state ∈
        [BusState.startBit, .resetPulse, .delay1, .delay8, .delay128, .strongPullup])
    ∧ t.timerRes = s.timerRes ∧ t.timerCompare = s.timerCompare ∧ t.lineDrive = s.lineDrive
    ∧ t.lineInput = s.lineInput ∧ t.sampleCount = s.sampleCount ∧ t.config = s.config

/-- R70, R208: if an arm and an `Idle` event fall together, both orders lead to the same state once the armed
micro-step has run. -/
def Obligations.ArmAndIdleEventCommute : Prop :=
  ∀ (w : CmdWord) (i : Instr) (s armed : State), decodeCmd w = .ok i → s.state = .idle → exec i s = .next armed →
    armed.state ≠ .idle →
    ∃ ticked armed' : State, event s = .next ticked ∧ exec i ticked = .next armed' ∧ event armed' = event armed

/-- R41, R42, R10: the invariant holds after reset. -/
def Obligations.InvariantHoldsAfterReset : Prop :=
  Inv State.reset

/-- R40, R41 (derived there), R65, R183: every step keeps the invariant, from every state that has it: the line
and the resolution follow `state` as R41 (a) to (d) say, `DelayEnd` is never entered, the search registers stay in
their ranges, and a search about to return found holds an identifier that passes the CRC check. -/
def Obligations.StepKeepsTheInvariant : Prop :=
  ∀ s t : State, Inv s → step s = .next t → Inv t

/-- R124, R102: in a state that has the invariant the engine never samples while it drives the line, so the bit a
sampling micro-step takes is the environment's. -/
def Obligations.EngineSamplesOnlyTheReleasedLine : Prop :=
  ∀ s : State, Inv s → s.state = .sample ∨ s.state = .resetSample →
    s.lineDrive = .released ∧ ∃ t, event s = .next t
      ∧ t.shiftRegister.toNat / 128 = (if s.lineInput.head?.getD (Config.freeSample s.sampleCount) then 1 else 0)

/-- R122 (derived there from R119): each event of an operation in progress brings `Idle` exactly one event nearer,
whatever the samples are. -/
def Obligations.EveryEventCountsDown : Prop :=
  ∀ s : State, Inv s → s.state ≠ .idle → ∃ t, event s = .next t ∧ t.eventsToIdle + 1 = s.eventsToIdle

/-- R122: once armed, an operation runs to `Idle` in the number of events its operands fix: 2 or 3 a slot, 4 for a
bus reset, 1 + P for a delay, 26 for a strong pullup with the default parameters. -/
def Obligations.ArmedOperationRunsToIdle : Prop :=
  (∀ s : State, Inv s → ∃ t, events s.eventsToIdle s = .next t ∧ t.state = .idle
      ∧ ∀ n, n < s.eventsToIdle → ∃ u, events n s = .next u ∧ u.state ≠ .idle)
    ∧ (∀ s : State, s.state = .resetPulse → s.eventsToIdle = 4)
    ∧ (∀ s : State, s.state = .startBit → s.bitsRemaining.toNat ≤ 8 →
        s.eventsToIdle = 2 * s.bitsRemaining.toNat
          + ((List.range s.bitsRemaining.toNat).filter (fun k => s.shiftRegister.getLsbD k)).length)
    ∧ (∀ s : State, s.state = .delay1 ∨ s.state = .delay8 ∨ s.state = .delay128 →
        s.eventsToIdle = 1 + if s.reloadPeriod = 0 then 65536 else s.reloadPeriod.toNat)
    ∧ (∀ s : State, s.state = .strongPullup → s.config = Config.standard → s.eventsToIdle = 26)

/-- R141, R239: a held command is never held for ever: whatever turns are scheduled, as long as the reset input is
not among them, the machine reaches a step at which the engine is idle and the command stands where it stood. -/
def Obligations.HeldCommandIsReleased : Prop :=
  ∀ (s : State) (i : Instr), Inv s → s.initialised = true → s.cmdBusy = true → decodeCmd s.cmdWord = .ok i →
    gatedAt i s.phase = true → Turn.resetInput ∉ s.schedule →
    ∃ t, steps s.eventsToIdle s = .next t ∧ t.state = .idle ∧ t.cmdWord = s.cmdWord ∧ t.phase = s.phase
      ∧ t.cmdBusy = true ∧ t.result = s.result

/-- R164 (derived there from R112 to R115): the length of a delay: from the set-up event to the event that writes
`Idle` there are P events and P × N(A) × r µs, with 0 standing for 65536 events and 256 counts. The time is the one the timer outputs request (log
entry 14). -/
def Obligations.DelayTakesItsLength : Prop :=
  ∀ s : State, s.state = .delay1 ∨ s.state = .delay8 ∨ s.state = .delay128 →
    let r := if s.state = .delay1 then 1 else if s.state = .delay8 then 8 else 128
    let counts := if s.reloadTicks.toNat = 0 then 256 else s.reloadTicks.toNat
    let period := if s.reloadPeriod.toNat = 0 then 65536 else s.reloadPeriod.toNat
    ∃ t u, event s = .next t ∧ elapsedMicros period t = period * counts * r
      ∧ events period t = .next u ∧ u.state = .idle ∧ u.reloadPeriod = 0 ∧ u.lineDrive = s.lineDrive

/-- R163, R118: with the default parameters the line is HIGH after events 1 to 25 of a strong pullup and at no
later one; the 26th releases it and returns to `Idle`; 748.8 ms lie between the first and the last (decision D16). The time is the one the timer outputs request (log
entry 14); the default parameters are log entry 4. -/
def Obligations.StrongPullupHoldsTheLineHigh : Prop :=
  ∀ s : State, s.state = .strongPullup → s.config = Config.standard →
    (∀ n, 1 ≤ n → n ≤ 25 → ∃ t, events n s = .next t ∧ t.lineDrive = .high ∧ t.state = .strongPullupDelay)
    ∧ ∃ t u, event s = .next t ∧ elapsedMicros 25 t = 748800 ∧ events 25 t = .next u
      ∧ u.lineDrive = .released ∧ u.state = .idle ∧ u.reloadTicks = 234 ∧ u.reloadPeriod = 0 ∧ u.timerRes = .r1

/-- R120 (derived there from R102, R104 to R107): the slot law. After the 2 events of a 0 slot or the 3 of a 1 slot
the wire's level of that slot stands in bit 7, the older bits have moved down and the slot is counted; the level is
0 in a 0 slot and the environment's bit in a 1 slot. -/
def Obligations.SlotLaw : Prop :=
  ∀ s : State, s.state = .startBit →
    let one := s.shiftRegister.toNat % 2 = 1
    ∃ t : State, events (if one then 3 else 2) s = .next t
      ∧ t.shiftRegister.toNat = s.shiftRegister.toNat / 2
          + (if one ∧ s.lineInput.head?.getD (Config.freeSample s.sampleCount) = true then 128 else 0)
      ∧ t.bitsRemaining = s.bitsRemaining - 1
      ∧ t.state = (if s.bitsRemaining.toNat = 1 then .idle else .startBit)
      ∧ t.lineInput = (if one then s.lineInput.tail else s.lineInput) ∧ t.lineDrive = .released

/-- R147, R63: RDBYTE from arm to return: after its 24 events it returns the byte whose bit k is the k-th sample,
the first sample in bit 0. -/
def Obligations.ReadByteReturnsTheSamples : Prop :=
  ∀ (s : State) (sent : Byte) (rest : List Bool), s.phase = .start → s.state = .idle →
    s.lineInput = (List.range 8).map sent.getLsbD ++ rest →
    ∃ armed done returned : State, exec .rdbyte s = .next armed ∧ events 24 armed = .next done
      ∧ done.state = .idle ∧ exec .rdbyte done = .next returned
      ∧ returned.result = sent ∧ returned.lineInput = rest ∧ returned.cmdBusy = false

/-- R146, R120, R122: WRBYTE with no device pulling low: after 16 events and one more for each 1 bit the engine is
idle and `shiftRegister` holds the byte written, whose 1 slots took the samples. -/
def Obligations.WrittenByteIsBackAfterItsSlots : Prop :=
  ∀ (s : State) (a : Byte) (rest : List Bool), s.phase = .start → s.state = .idle →
    let ones := ((List.range 8).filter a.getLsbD).length
    s.lineInput = List.replicate ones true ++ rest →
    ∃ armed done : State, exec (.wrbyte a) s = .next armed ∧ events (16 + ones) armed = .next done
      ∧ done.state = .idle ∧ done.shiftRegister = a ∧ done.bitsRemaining = 0 ∧ done.lineInput = rest

/-- R184, R187, S8-6: with one device on the bus, whose identifier passes the CRC check, and after cleared
bookkeeping, SEARCH returns found with exactly that identifier and `lastDeviceFlag` set. The bits the environment
gives are those of one device that answers the presence, sends its bit and the complement at each position, and
pulls nothing low in a write slot (R176; log entry 2); the front end steps whenever it can (log entry 1). -/
def Obligations.SearchFindsTheOnlyDevice : Prop :=
  ∀ (s : State) (id : Vector Byte 8) (rest : List Bool),
    let bit : Nat → Bool := fun k => ((id[k / 8]?).getD 0).getLsbD (k % 8)
    let ones := ((List.range 8).filter s.config.searchCmd.getLsbD).length
    s.initialised = true → s.cmdBusy = true → s.cmdWord = 0x0000000B → s.phase = .start → s.state = .idle →
    s.lastDeviceFlag = false → checkCrc id.toList = 0x00 →
    s.lineInput = false :: (List.replicate ones true
      ++ ((List.range 64).flatMap (fun k => [bit k, !bit k] ++ if bit k then [true] else []) ++ rest)) →
    ∃ (n : Nat) (t : State), steps n { s with schedule := List.replicate n .frontEnd } = .next t
      ∧ t.result = 0x01 ∧ t.cmdBusy = false ∧ t.deviceId = id
      ∧ t.lastDeviceFlag = true ∧ t.lastDiscrepancy = 0 ∧ t.lastZero = 0
      ∧ t.lastFamilyDiscrepancy = s.lastFamilyDiscrepancy
end

