-- ==== Sys2Proof/Laws/State.lean ====
section
/-! SUPPORT. One lemma per field and named update: what each operation of `Machine/Ops.lean` and its neighbours
leaves in each field of `State`. Later proofs rewrite with these and unfold no update. -/

namespace Sys2Proof.Machine

variable (s : State)

/-! ### `setTimer` -/

@[simp] theorem State.setTimer_state (r : Resolution) (n : Nat) : (s.setTimer r n).state = s.state := rfl
@[simp] theorem State.setTimer_shiftRegister (r : Resolution) (n : Nat) : (s.setTimer r n).shiftRegister = s.shiftRegister := rfl
@[simp] theorem State.setTimer_bitsRemaining (r : Resolution) (n : Nat) : (s.setTimer r n).bitsRemaining = s.bitsRemaining := rfl
@[simp] theorem State.setTimer_reloadTicks (r : Resolution) (n : Nat) : (s.setTimer r n).reloadTicks = s.reloadTicks := rfl
@[simp] theorem State.setTimer_reloadPeriod (r : Resolution) (n : Nat) : (s.setTimer r n).reloadPeriod = s.reloadPeriod := rfl
@[simp] theorem State.setTimer_timerRes (r : Resolution) (n : Nat) : (s.setTimer r n).timerRes = r := rfl
@[simp] theorem State.setTimer_timerCompare (r : Resolution) (n : Nat) : (s.setTimer r n).timerCompare = BitVec.ofNat 8 n := rfl
@[simp] theorem State.setTimer_lineDrive (r : Resolution) (n : Nat) : (s.setTimer r n).lineDrive = s.lineDrive := rfl
@[simp] theorem State.setTimer_deviceId (r : Resolution) (n : Nat) : (s.setTimer r n).deviceId = s.deviceId := rfl
@[simp] theorem State.setTimer_lastDiscrepancy (r : Resolution) (n : Nat) : (s.setTimer r n).lastDiscrepancy = s.lastDiscrepancy := rfl
@[simp] theorem State.setTimer_lastFamilyDiscrepancy (r : Resolution) (n : Nat) : (s.setTimer r n).lastFamilyDiscrepancy = s.lastFamilyDiscrepancy := rfl
@[simp] theorem State.setTimer_lastDeviceFlag (r : Resolution) (n : Nat) : (s.setTimer r n).lastDeviceFlag = s.lastDeviceFlag := rfl
@[simp] theorem State.setTimer_lastZero (r : Resolution) (n : Nat) : (s.setTimer r n).lastZero = s.lastZero := rfl
@[simp] theorem State.setTimer_pos (r : Resolution) (n : Nat) : (s.setTimer r n).pos = s.pos := rfl
@[simp] theorem State.setTimer_idBit (r : Resolution) (n : Nat) : (s.setTimer r n).idBit = s.idBit := rfl
@[simp] theorem State.setTimer_cmpBit (r : Resolution) (n : Nat) : (s.setTimer r n).cmpBit = s.cmpBit := rfl
@[simp] theorem State.setTimer_dir (r : Resolution) (n : Nat) : (s.setTimer r n).dir = s.dir := rfl
@[simp] theorem State.setTimer_result (r : Resolution) (n : Nat) : (s.setTimer r n).result = s.result := rfl
@[simp] theorem State.setTimer_cmdBusy (r : Resolution) (n : Nat) : (s.setTimer r n).cmdBusy = s.cmdBusy := rfl
@[simp] theorem State.setTimer_cmdWord (r : Resolution) (n : Nat) : (s.setTimer r n).cmdWord = s.cmdWord := rfl
@[simp] theorem State.setTimer_phase (r : Resolution) (n : Nat) : (s.setTimer r n).phase = s.phase := rfl
@[simp] theorem State.setTimer_initialised (r : Resolution) (n : Nat) : (s.setTimer r n).initialised = s.initialised := rfl
@[simp] theorem State.setTimer_hostCommands (r : Resolution) (n : Nat) : (s.setTimer r n).hostCommands = s.hostCommands := rfl
@[simp] theorem State.setTimer_lineInput (r : Resolution) (n : Nat) : (s.setTimer r n).lineInput = s.lineInput := rfl
@[simp] theorem State.setTimer_sampleCount (r : Resolution) (n : Nat) : (s.setTimer r n).sampleCount = s.sampleCount := rfl
@[simp] theorem State.setTimer_schedule (r : Resolution) (n : Nat) : (s.setTimer r n).schedule = s.schedule := rfl
@[simp] theorem State.setTimer_turnCount (r : Resolution) (n : Nat) : (s.setTimer r n).turnCount = s.turnCount := rfl
@[simp] theorem State.setTimer_config (r : Resolution) (n : Nat) : (s.setTimer r n).config = s.config := rfl

/-! ### `setTimerTo` -/

@[simp] theorem State.setTimerTo_state (t : TimerSetting) : (s.setTimerTo t).state = s.state := rfl
@[simp] theorem State.setTimerTo_shiftRegister (t : TimerSetting) : (s.setTimerTo t).shiftRegister = s.shiftRegister := rfl
@[simp] theorem State.setTimerTo_bitsRemaining (t : TimerSetting) : (s.setTimerTo t).bitsRemaining = s.bitsRemaining := rfl
@[simp] theorem State.setTimerTo_reloadTicks (t : TimerSetting) : (s.setTimerTo t).reloadTicks = s.reloadTicks := rfl
@[simp] theorem State.setTimerTo_reloadPeriod (t : TimerSetting) : (s.setTimerTo t).reloadPeriod = s.reloadPeriod := rfl
@[simp] theorem State.setTimerTo_timerRes (t : TimerSetting) : (s.setTimerTo t).timerRes = t.res := rfl
@[simp] theorem State.setTimerTo_timerCompare (t : TimerSetting) : (s.setTimerTo t).timerCompare = BitVec.ofNat 8 t.counts := rfl
@[simp] theorem State.setTimerTo_lineDrive (t : TimerSetting) : (s.setTimerTo t).lineDrive = s.lineDrive := rfl
@[simp] theorem State.setTimerTo_deviceId (t : TimerSetting) : (s.setTimerTo t).deviceId = s.deviceId := rfl
@[simp] theorem State.setTimerTo_lastDiscrepancy (t : TimerSetting) : (s.setTimerTo t).lastDiscrepancy = s.lastDiscrepancy := rfl
@[simp] theorem State.setTimerTo_lastFamilyDiscrepancy (t : TimerSetting) : (s.setTimerTo t).lastFamilyDiscrepancy = s.lastFamilyDiscrepancy := rfl
@[simp] theorem State.setTimerTo_lastDeviceFlag (t : TimerSetting) : (s.setTimerTo t).lastDeviceFlag = s.lastDeviceFlag := rfl
@[simp] theorem State.setTimerTo_lastZero (t : TimerSetting) : (s.setTimerTo t).lastZero = s.lastZero := rfl
@[simp] theorem State.setTimerTo_pos (t : TimerSetting) : (s.setTimerTo t).pos = s.pos := rfl
@[simp] theorem State.setTimerTo_idBit (t : TimerSetting) : (s.setTimerTo t).idBit = s.idBit := rfl
@[simp] theorem State.setTimerTo_cmpBit (t : TimerSetting) : (s.setTimerTo t).cmpBit = s.cmpBit := rfl
@[simp] theorem State.setTimerTo_dir (t : TimerSetting) : (s.setTimerTo t).dir = s.dir := rfl
@[simp] theorem State.setTimerTo_result (t : TimerSetting) : (s.setTimerTo t).result = s.result := rfl
@[simp] theorem State.setTimerTo_cmdBusy (t : TimerSetting) : (s.setTimerTo t).cmdBusy = s.cmdBusy := rfl
@[simp] theorem State.setTimerTo_cmdWord (t : TimerSetting) : (s.setTimerTo t).cmdWord = s.cmdWord := rfl
@[simp] theorem State.setTimerTo_phase (t : TimerSetting) : (s.setTimerTo t).phase = s.phase := rfl
@[simp] theorem State.setTimerTo_initialised (t : TimerSetting) : (s.setTimerTo t).initialised = s.initialised := rfl
@[simp] theorem State.setTimerTo_hostCommands (t : TimerSetting) : (s.setTimerTo t).hostCommands = s.hostCommands := rfl
@[simp] theorem State.setTimerTo_lineInput (t : TimerSetting) : (s.setTimerTo t).lineInput = s.lineInput := rfl
@[simp] theorem State.setTimerTo_sampleCount (t : TimerSetting) : (s.setTimerTo t).sampleCount = s.sampleCount := rfl
@[simp] theorem State.setTimerTo_schedule (t : TimerSetting) : (s.setTimerTo t).schedule = s.schedule := rfl
@[simp] theorem State.setTimerTo_turnCount (t : TimerSetting) : (s.setTimerTo t).turnCount = s.turnCount := rfl
@[simp] theorem State.setTimerTo_config (t : TimerSetting) : (s.setTimerTo t).config = s.config := rfl

/-! ### `setLine` -/

@[simp] theorem State.setLine_state (m : LineDrive) : (s.setLine m).state = s.state := rfl
@[simp] theorem State.setLine_shiftRegister (m : LineDrive) : (s.setLine m).shiftRegister = s.shiftRegister := rfl
@[simp] theorem State.setLine_bitsRemaining (m : LineDrive) : (s.setLine m).bitsRemaining = s.bitsRemaining := rfl
@[simp] theorem State.setLine_reloadTicks (m : LineDrive) : (s.setLine m).reloadTicks = s.reloadTicks := rfl
@[simp] theorem State.setLine_reloadPeriod (m : LineDrive) : (s.setLine m).reloadPeriod = s.reloadPeriod := rfl
@[simp] theorem State.setLine_timerRes (m : LineDrive) : (s.setLine m).timerRes = s.timerRes := rfl
@[simp] theorem State.setLine_timerCompare (m : LineDrive) : (s.setLine m).timerCompare = s.timerCompare := rfl
@[simp] theorem State.setLine_lineDrive (m : LineDrive) : (s.setLine m).lineDrive = m := rfl
@[simp] theorem State.setLine_deviceId (m : LineDrive) : (s.setLine m).deviceId = s.deviceId := rfl
@[simp] theorem State.setLine_lastDiscrepancy (m : LineDrive) : (s.setLine m).lastDiscrepancy = s.lastDiscrepancy := rfl
@[simp] theorem State.setLine_lastFamilyDiscrepancy (m : LineDrive) : (s.setLine m).lastFamilyDiscrepancy = s.lastFamilyDiscrepancy := rfl
@[simp] theorem State.setLine_lastDeviceFlag (m : LineDrive) : (s.setLine m).lastDeviceFlag = s.lastDeviceFlag := rfl
@[simp] theorem State.setLine_lastZero (m : LineDrive) : (s.setLine m).lastZero = s.lastZero := rfl
@[simp] theorem State.setLine_pos (m : LineDrive) : (s.setLine m).pos = s.pos := rfl
@[simp] theorem State.setLine_idBit (m : LineDrive) : (s.setLine m).idBit = s.idBit := rfl
@[simp] theorem State.setLine_cmpBit (m : LineDrive) : (s.setLine m).cmpBit = s.cmpBit := rfl
@[simp] theorem State.setLine_dir (m : LineDrive) : (s.setLine m).dir = s.dir := rfl
@[simp] theorem State.setLine_result (m : LineDrive) : (s.setLine m).result = s.result := rfl
@[simp] theorem State.setLine_cmdBusy (m : LineDrive) : (s.setLine m).cmdBusy = s.cmdBusy := rfl
@[simp] theorem State.setLine_cmdWord (m : LineDrive) : (s.setLine m).cmdWord = s.cmdWord := rfl
@[simp] theorem State.setLine_phase (m : LineDrive) : (s.setLine m).phase = s.phase := rfl
@[simp] theorem State.setLine_initialised (m : LineDrive) : (s.setLine m).initialised = s.initialised := rfl
@[simp] theorem State.setLine_hostCommands (m : LineDrive) : (s.setLine m).hostCommands = s.hostCommands := rfl
@[simp] theorem State.setLine_lineInput (m : LineDrive) : (s.setLine m).lineInput = s.lineInput := rfl
@[simp] theorem State.setLine_sampleCount (m : LineDrive) : (s.setLine m).sampleCount = s.sampleCount := rfl
@[simp] theorem State.setLine_schedule (m : LineDrive) : (s.setLine m).schedule = s.schedule := rfl
@[simp] theorem State.setLine_turnCount (m : LineDrive) : (s.setLine m).turnCount = s.turnCount := rfl
@[simp] theorem State.setLine_config (m : LineDrive) : (s.setLine m).config = s.config := rfl

/-! ### `toState` -/

@[simp] theorem State.toState_state (b : BusState) : (s.toState b).state = b := rfl
@[simp] theorem State.toState_shiftRegister (b : BusState) : (s.toState b).shiftRegister = s.shiftRegister := rfl
@[simp] theorem State.toState_bitsRemaining (b : BusState) : (s.toState b).bitsRemaining = s.bitsRemaining := rfl
@[simp] theorem State.toState_reloadTicks (b : BusState) : (s.toState b).reloadTicks = s.reloadTicks := rfl
@[simp] theorem State.toState_reloadPeriod (b : BusState) : (s.toState b).reloadPeriod = s.reloadPeriod := rfl
@[simp] theorem State.toState_timerRes (b : BusState) : (s.toState b).timerRes = s.timerRes := rfl
@[simp] theorem State.toState_timerCompare (b : BusState) : (s.toState b).timerCompare = s.timerCompare := rfl
@[simp] theorem State.toState_lineDrive (b : BusState) : (s.toState b).lineDrive = s.lineDrive := rfl
@[simp] theorem State.toState_deviceId (b : BusState) : (s.toState b).deviceId = s.deviceId := rfl
@[simp] theorem State.toState_lastDiscrepancy (b : BusState) : (s.toState b).lastDiscrepancy = s.lastDiscrepancy := rfl
@[simp] theorem State.toState_lastFamilyDiscrepancy (b : BusState) : (s.toState b).lastFamilyDiscrepancy = s.lastFamilyDiscrepancy := rfl
@[simp] theorem State.toState_lastDeviceFlag (b : BusState) : (s.toState b).lastDeviceFlag = s.lastDeviceFlag := rfl
@[simp] theorem State.toState_lastZero (b : BusState) : (s.toState b).lastZero = s.lastZero := rfl
@[simp] theorem State.toState_pos (b : BusState) : (s.toState b).pos = s.pos := rfl
@[simp] theorem State.toState_idBit (b : BusState) : (s.toState b).idBit = s.idBit := rfl
@[simp] theorem State.toState_cmpBit (b : BusState) : (s.toState b).cmpBit = s.cmpBit := rfl
@[simp] theorem State.toState_dir (b : BusState) : (s.toState b).dir = s.dir := rfl
@[simp] theorem State.toState_result (b : BusState) : (s.toState b).result = s.result := rfl
@[simp] theorem State.toState_cmdBusy (b : BusState) : (s.toState b).cmdBusy = s.cmdBusy := rfl
@[simp] theorem State.toState_cmdWord (b : BusState) : (s.toState b).cmdWord = s.cmdWord := rfl
@[simp] theorem State.toState_phase (b : BusState) : (s.toState b).phase = s.phase := rfl
@[simp] theorem State.toState_initialised (b : BusState) : (s.toState b).initialised = s.initialised := rfl
@[simp] theorem State.toState_hostCommands (b : BusState) : (s.toState b).hostCommands = s.hostCommands := rfl
@[simp] theorem State.toState_lineInput (b : BusState) : (s.toState b).lineInput = s.lineInput := rfl
@[simp] theorem State.toState_sampleCount (b : BusState) : (s.toState b).sampleCount = s.sampleCount := rfl
@[simp] theorem State.toState_schedule (b : BusState) : (s.toState b).schedule = s.schedule := rfl
@[simp] theorem State.toState_turnCount (b : BusState) : (s.toState b).turnCount = s.turnCount := rfl
@[simp] theorem State.toState_config (b : BusState) : (s.toState b).config = s.config := rfl

/-! ### `shiftInBit` -/

@[simp] theorem State.shiftInBit_state (b : Bool) : (s.shiftInBit b).state = s.state := rfl
@[simp] theorem State.shiftInBit_shiftRegister (b : Bool) : (s.shiftInBit b).shiftRegister = shiftIn b s.shiftRegister := rfl
@[simp] theorem State.shiftInBit_bitsRemaining (b : Bool) : (s.shiftInBit b).bitsRemaining = s.bitsRemaining := rfl
@[simp] theorem State.shiftInBit_reloadTicks (b : Bool) : (s.shiftInBit b).reloadTicks = s.reloadTicks := rfl
@[simp] theorem State.shiftInBit_reloadPeriod (b : Bool) : (s.shiftInBit b).reloadPeriod = s.reloadPeriod := rfl
@[simp] theorem State.shiftInBit_timerRes (b : Bool) : (s.shiftInBit b).timerRes = s.timerRes := rfl
@[simp] theorem State.shiftInBit_timerCompare (b : Bool) : (s.shiftInBit b).timerCompare = s.timerCompare := rfl
@[simp] theorem State.shiftInBit_lineDrive (b : Bool) : (s.shiftInBit b).lineDrive = s.lineDrive := rfl
@[simp] theorem State.shiftInBit_deviceId (b : Bool) : (s.shiftInBit b).deviceId = s.deviceId := rfl
@[simp] theorem State.shiftInBit_lastDiscrepancy (b : Bool) : (s.shiftInBit b).lastDiscrepancy = s.lastDiscrepancy := rfl
@[simp] theorem State.shiftInBit_lastFamilyDiscrepancy (b : Bool) : (s.shiftInBit b).lastFamilyDiscrepancy = s.lastFamilyDiscrepancy := rfl
@[simp] theorem State.shiftInBit_lastDeviceFlag (b : Bool) : (s.shiftInBit b).lastDeviceFlag = s.lastDeviceFlag := rfl
@[simp] theorem State.shiftInBit_lastZero (b : Bool) : (s.shiftInBit b).lastZero = s.lastZero := rfl
@[simp] theorem State.shiftInBit_pos (b : Bool) : (s.shiftInBit b).pos = s.pos := rfl
@[simp] theorem State.shiftInBit_idBit (b : Bool) : (s.shiftInBit b).idBit = s.idBit := rfl
@[simp] theorem State.shiftInBit_cmpBit (b : Bool) : (s.shiftInBit b).cmpBit = s.cmpBit := rfl
@[simp] theorem State.shiftInBit_dir (b : Bool) : (s.shiftInBit b).dir = s.dir := rfl
@[simp] theorem State.shiftInBit_result (b : Bool) : (s.shiftInBit b).result = s.result := rfl
@[simp] theorem State.shiftInBit_cmdBusy (b : Bool) : (s.shiftInBit b).cmdBusy = s.cmdBusy := rfl
@[simp] theorem State.shiftInBit_cmdWord (b : Bool) : (s.shiftInBit b).cmdWord = s.cmdWord := rfl
@[simp] theorem State.shiftInBit_phase (b : Bool) : (s.shiftInBit b).phase = s.phase := rfl
@[simp] theorem State.shiftInBit_initialised (b : Bool) : (s.shiftInBit b).initialised = s.initialised := rfl
@[simp] theorem State.shiftInBit_hostCommands (b : Bool) : (s.shiftInBit b).hostCommands = s.hostCommands := rfl
@[simp] theorem State.shiftInBit_lineInput (b : Bool) : (s.shiftInBit b).lineInput = s.lineInput := rfl
@[simp] theorem State.shiftInBit_sampleCount (b : Bool) : (s.shiftInBit b).sampleCount = s.sampleCount := rfl
@[simp] theorem State.shiftInBit_schedule (b : Bool) : (s.shiftInBit b).schedule = s.schedule := rfl
@[simp] theorem State.shiftInBit_turnCount (b : Bool) : (s.shiftInBit b).turnCount = s.turnCount := rfl
@[simp] theorem State.shiftInBit_config (b : Bool) : (s.shiftInBit b).config = s.config := rfl

/-! ### `endSlot` -/

@[simp] theorem State.endSlot_state : (s.endSlot).state = if moreBits s.bitsRemaining then .startBit else .idle := rfl
@[simp] theorem State.endSlot_shiftRegister : (s.endSlot).shiftRegister = s.shiftRegister := rfl
@[simp] theorem State.endSlot_bitsRemaining : (s.endSlot).bitsRemaining = s.bitsRemaining - 1 := rfl
@[simp] theorem State.endSlot_reloadTicks : (s.endSlot).reloadTicks = s.reloadTicks := rfl
@[simp] theorem State.endSlot_reloadPeriod : (s.endSlot).reloadPeriod = s.reloadPeriod := rfl
@[simp] theorem State.endSlot_timerRes : (s.endSlot).timerRes = s.timerRes := rfl
@[simp] theorem State.endSlot_timerCompare : (s.endSlot).timerCompare = s.timerCompare := rfl
@[simp] theorem State.endSlot_lineDrive : (s.endSlot).lineDrive = s.lineDrive := rfl
@[simp] theorem State.endSlot_deviceId : (s.endSlot).deviceId = s.deviceId := rfl
@[simp] theorem State.endSlot_lastDiscrepancy : (s.endSlot).lastDiscrepancy = s.lastDiscrepancy := rfl
@[simp] theorem State.endSlot_lastFamilyDiscrepancy : (s.endSlot).lastFamilyDiscrepancy = s.lastFamilyDiscrepancy := rfl
@[simp] theorem State.endSlot_lastDeviceFlag : (s.endSlot).lastDeviceFlag = s.lastDeviceFlag := rfl
@[simp] theorem State.endSlot_lastZero : (s.endSlot).lastZero = s.lastZero := rfl
@[simp] theorem State.endSlot_pos : (s.endSlot).pos = s.pos := rfl
@[simp] theorem State.endSlot_idBit : (s.endSlot).idBit = s.idBit := rfl
@[simp] theorem State.endSlot_cmpBit : (s.endSlot).cmpBit = s.cmpBit := rfl
@[simp] theorem State.endSlot_dir : (s.endSlot).dir = s.dir := rfl
@[simp] theorem State.endSlot_result : (s.endSlot).result = s.result := rfl
@[simp] theorem State.endSlot_cmdBusy : (s.endSlot).cmdBusy = s.cmdBusy := rfl
@[simp] theorem State.endSlot_cmdWord : (s.endSlot).cmdWord = s.cmdWord := rfl
@[simp] theorem State.endSlot_phase : (s.endSlot).phase = s.phase := rfl
@[simp] theorem State.endSlot_initialised : (s.endSlot).initialised = s.initialised := rfl
@[simp] theorem State.endSlot_hostCommands : (s.endSlot).hostCommands = s.hostCommands := rfl
@[simp] theorem State.endSlot_lineInput : (s.endSlot).lineInput = s.lineInput := rfl
@[simp] theorem State.endSlot_sampleCount : (s.endSlot).sampleCount = s.sampleCount := rfl
@[simp] theorem State.endSlot_schedule : (s.endSlot).schedule = s.schedule := rfl
@[simp] theorem State.endSlot_turnCount : (s.endSlot).turnCount = s.turnCount := rfl
@[simp] theorem State.endSlot_config : (s.endSlot).config = s.config := rfl

/-! ### `armSlots` -/

@[simp] theorem State.armSlots_state (sr n : Byte) : (s.armSlots sr n).state = .startBit := rfl
@[simp] theorem State.armSlots_shiftRegister (sr n : Byte) : (s.armSlots sr n).shiftRegister = sr := rfl
@[simp] theorem State.armSlots_bitsRemaining (sr n : Byte) : (s.armSlots sr n).bitsRemaining = n := rfl
@[simp] theorem State.armSlots_reloadTicks (sr n : Byte) : (s.armSlots sr n).reloadTicks = s.reloadTicks := rfl
@[simp] theorem State.armSlots_reloadPeriod (sr n : Byte) : (s.armSlots sr n).reloadPeriod = s.reloadPeriod := rfl
@[simp] theorem State.armSlots_timerRes (sr n : Byte) : (s.armSlots sr n).timerRes = s.timerRes := rfl
@[simp] theorem State.armSlots_timerCompare (sr n : Byte) : (s.armSlots sr n).timerCompare = s.timerCompare := rfl
@[simp] theorem State.armSlots_lineDrive (sr n : Byte) : (s.armSlots sr n).lineDrive = s.lineDrive := rfl
@[simp] theorem State.armSlots_deviceId (sr n : Byte) : (s.armSlots sr n).deviceId = s.deviceId := rfl
@[simp] theorem State.armSlots_lastDiscrepancy (sr n : Byte) : (s.armSlots sr n).lastDiscrepancy = s.lastDiscrepancy := rfl
@[simp] theorem State.armSlots_lastFamilyDiscrepancy (sr n : Byte) : (s.armSlots sr n).lastFamilyDiscrepancy = s.lastFamilyDiscrepancy := rfl
@[simp] theorem State.armSlots_lastDeviceFlag (sr n : Byte) : (s.armSlots sr n).lastDeviceFlag = s.lastDeviceFlag := rfl
@[simp] theorem State.armSlots_lastZero (sr n : Byte) : (s.armSlots sr n).lastZero = s.lastZero := rfl
@[simp] theorem State.armSlots_pos (sr n : Byte) : (s.armSlots sr n).pos = s.pos := rfl
@[simp] theorem State.armSlots_idBit (sr n : Byte) : (s.armSlots sr n).idBit = s.idBit := rfl
@[simp] theorem State.armSlots_cmpBit (sr n : Byte) : (s.armSlots sr n).cmpBit = s.cmpBit := rfl
@[simp] theorem State.armSlots_dir (sr n : Byte) : (s.armSlots sr n).dir = s.dir := rfl
@[simp] theorem State.armSlots_result (sr n : Byte) : (s.armSlots sr n).result = s.result := rfl
@[simp] theorem State.armSlots_cmdBusy (sr n : Byte) : (s.armSlots sr n).cmdBusy = s.cmdBusy := rfl
@[simp] theorem State.armSlots_cmdWord (sr n : Byte) : (s.armSlots sr n).cmdWord = s.cmdWord := rfl
@[simp] theorem State.armSlots_phase (sr n : Byte) : (s.armSlots sr n).phase = s.phase := rfl
@[simp] theorem State.armSlots_initialised (sr n : Byte) : (s.armSlots sr n).initialised = s.initialised := rfl
@[simp] theorem State.armSlots_hostCommands (sr n : Byte) : (s.armSlots sr n).hostCommands = s.hostCommands := rfl
@[simp] theorem State.armSlots_lineInput (sr n : Byte) : (s.armSlots sr n).lineInput = s.lineInput := rfl
@[simp] theorem State.armSlots_sampleCount (sr n : Byte) : (s.armSlots sr n).sampleCount = s.sampleCount := rfl
@[simp] theorem State.armSlots_schedule (sr n : Byte) : (s.armSlots sr n).schedule = s.schedule := rfl
@[simp] theorem State.armSlots_turnCount (sr n : Byte) : (s.armSlots sr n).turnCount = s.turnCount := rfl
@[simp] theorem State.armSlots_config (sr n : Byte) : (s.armSlots sr n).config = s.config := rfl

/-! ### `armDelay` -/

@[simp] theorem State.armDelay_state (b : BusState) (x : Byte) (y : HWord) : (s.armDelay b x y).state = b := rfl
@[simp] theorem State.armDelay_shiftRegister (b : BusState) (x : Byte) (y : HWord) : (s.armDelay b x y).shiftRegister = s.shiftRegister := rfl
@[simp] theorem State.armDelay_bitsRemaining (b : BusState) (x : Byte) (y : HWord) : (s.armDelay b x y).bitsRemaining = s.bitsRemaining := rfl
@[simp] theorem State.armDelay_reloadTicks (b : BusState) (x : Byte) (y : HWord) : (s.armDelay b x y).reloadTicks = x := rfl
@[simp] theorem State.armDelay_reloadPeriod (b : BusState) (x : Byte) (y : HWord) : (s.armDelay b x y).reloadPeriod = y := rfl
@[simp] theorem State.armDelay_timerRes (b : BusState) (x : Byte) (y : HWord) : (s.armDelay b x y).timerRes = s.timerRes := rfl
@[simp] theorem State.armDelay_timerCompare (b : BusState) (x : Byte) (y : HWord) : (s.armDelay b x y).timerCompare = s.timerCompare := rfl
@[simp] theorem State.armDelay_lineDrive (b : BusState) (x : Byte) (y : HWord) : (s.armDelay b x y).lineDrive = s.lineDrive := rfl
@[simp] theorem State.armDelay_deviceId (b : BusState) (x : Byte) (y : HWord) : (s.armDelay b x y).deviceId = s.deviceId := rfl
@[simp] theorem State.armDelay_lastDiscrepancy (b : BusState) (x : Byte) (y : HWord) : (s.armDelay b x y).lastDiscrepancy = s.lastDiscrepancy := rfl
@[simp] theorem State.armDelay_lastFamilyDiscrepancy (b : BusState) (x : Byte) (y : HWord) : (s.armDelay b x y).lastFamilyDiscrepancy = s.lastFamilyDiscrepancy := rfl
@[simp] theorem State.armDelay_lastDeviceFlag (b : BusState) (x : Byte) (y : HWord) : (s.armDelay b x y).lastDeviceFlag = s.lastDeviceFlag := rfl
@[simp] theorem State.armDelay_lastZero (b : BusState) (x : Byte) (y : HWord) : (s.armDelay b x y).lastZero = s.lastZero := rfl
@[simp] theorem State.armDelay_pos (b : BusState) (x : Byte) (y : HWord) : (s.armDelay b x y).pos = s.pos := rfl
@[simp] theorem State.armDelay_idBit (b : BusState) (x : Byte) (y : HWord) : (s.armDelay b x y).idBit = s.idBit := rfl
@[simp] theorem State.armDelay_cmpBit (b : BusState) (x : Byte) (y : HWord) : (s.armDelay b x y).cmpBit = s.cmpBit := rfl
@[simp] theorem State.armDelay_dir (b : BusState) (x : Byte) (y : HWord) : (s.armDelay b x y).dir = s.dir := rfl
@[simp] theorem State.armDelay_result (b : BusState) (x : Byte) (y : HWord) : (s.armDelay b x y).result = s.result := rfl
@[simp] theorem State.armDelay_cmdBusy (b : BusState) (x : Byte) (y : HWord) : (s.armDelay b x y).cmdBusy = s.cmdBusy := rfl
@[simp] theorem State.armDelay_cmdWord (b : BusState) (x : Byte) (y : HWord) : (s.armDelay b x y).cmdWord = s.cmdWord := rfl
@[simp] theorem State.armDelay_phase (b : BusState) (x : Byte) (y : HWord) : (s.armDelay b x y).phase = s.phase := rfl
@[simp] theorem State.armDelay_initialised (b : BusState) (x : Byte) (y : HWord) : (s.armDelay b x y).initialised = s.initialised := rfl
@[simp] theorem State.armDelay_hostCommands (b : BusState) (x : Byte) (y : HWord) : (s.armDelay b x y).hostCommands = s.hostCommands := rfl
@[simp] theorem State.armDelay_lineInput (b : BusState) (x : Byte) (y : HWord) : (s.armDelay b x y).lineInput = s.lineInput := rfl
@[simp] theorem State.armDelay_sampleCount (b : BusState) (x : Byte) (y : HWord) : (s.armDelay b x y).sampleCount = s.sampleCount := rfl
@[simp] theorem State.armDelay_schedule (b : BusState) (x : Byte) (y : HWord) : (s.armDelay b x y).schedule = s.schedule := rfl
@[simp] theorem State.armDelay_turnCount (b : BusState) (x : Byte) (y : HWord) : (s.armDelay b x y).turnCount = s.turnCount := rfl
@[simp] theorem State.armDelay_config (b : BusState) (x : Byte) (y : HWord) : (s.armDelay b x y).config = s.config := rfl

/-! ### `atPhase` -/

@[simp] theorem State.atPhase_state (p : Phase) : (s.atPhase p).state = s.state := rfl
@[simp] theorem State.atPhase_shiftRegister (p : Phase) : (s.atPhase p).shiftRegister = s.shiftRegister := rfl
@[simp] theorem State.atPhase_bitsRemaining (p : Phase) : (s.atPhase p).bitsRemaining = s.bitsRemaining := rfl
@[simp] theorem State.atPhase_reloadTicks (p : Phase) : (s.atPhase p).reloadTicks = s.reloadTicks := rfl
@[simp] theorem State.atPhase_reloadPeriod (p : Phase) : (s.atPhase p).reloadPeriod = s.reloadPeriod := rfl
@[simp] theorem State.atPhase_timerRes (p : Phase) : (s.atPhase p).timerRes = s.timerRes := rfl
@[simp] theorem State.atPhase_timerCompare (p : Phase) : (s.atPhase p).timerCompare = s.timerCompare := rfl
@[simp] theorem State.atPhase_lineDrive (p : Phase) : (s.atPhase p).lineDrive = s.lineDrive := rfl
@[simp] theorem State.atPhase_deviceId (p : Phase) : (s.atPhase p).deviceId = s.deviceId := rfl
@[simp] theorem State.atPhase_lastDiscrepancy (p : Phase) : (s.atPhase p).lastDiscrepancy = s.lastDiscrepancy := rfl
@[simp] theorem State.atPhase_lastFamilyDiscrepancy (p : Phase) : (s.atPhase p).lastFamilyDiscrepancy = s.lastFamilyDiscrepancy := rfl
@[simp] theorem State.atPhase_lastDeviceFlag (p : Phase) : (s.atPhase p).lastDeviceFlag = s.lastDeviceFlag := rfl
@[simp] theorem State.atPhase_lastZero (p : Phase) : (s.atPhase p).lastZero = s.lastZero := rfl
@[simp] theorem State.atPhase_pos (p : Phase) : (s.atPhase p).pos = s.pos := rfl
@[simp] theorem State.atPhase_idBit (p : Phase) : (s.atPhase p).idBit = s.idBit := rfl
@[simp] theorem State.atPhase_cmpBit (p : Phase) : (s.atPhase p).cmpBit = s.cmpBit := rfl
@[simp] theorem State.atPhase_dir (p : Phase) : (s.atPhase p).dir = s.dir := rfl
@[simp] theorem State.atPhase_result (p : Phase) : (s.atPhase p).result = s.result := rfl
@[simp] theorem State.atPhase_cmdBusy (p : Phase) : (s.atPhase p).cmdBusy = s.cmdBusy := rfl
@[simp] theorem State.atPhase_cmdWord (p : Phase) : (s.atPhase p).cmdWord = s.cmdWord := rfl
@[simp] theorem State.atPhase_phase (p : Phase) : (s.atPhase p).phase = p := rfl
@[simp] theorem State.atPhase_initialised (p : Phase) : (s.atPhase p).initialised = s.initialised := rfl
@[simp] theorem State.atPhase_hostCommands (p : Phase) : (s.atPhase p).hostCommands = s.hostCommands := rfl
@[simp] theorem State.atPhase_lineInput (p : Phase) : (s.atPhase p).lineInput = s.lineInput := rfl
@[simp] theorem State.atPhase_sampleCount (p : Phase) : (s.atPhase p).sampleCount = s.sampleCount := rfl
@[simp] theorem State.atPhase_schedule (p : Phase) : (s.atPhase p).schedule = s.schedule := rfl
@[simp] theorem State.atPhase_turnCount (p : Phase) : (s.atPhase p).turnCount = s.turnCount := rfl
@[simp] theorem State.atPhase_config (p : Phase) : (s.atPhase p).config = s.config := rfl

/-! ### `atSearch` -/

@[simp] theorem State.atSearch_state (p : SearchPoint) : (s.atSearch p).state = s.state := rfl
@[simp] theorem State.atSearch_shiftRegister (p : SearchPoint) : (s.atSearch p).shiftRegister = s.shiftRegister := rfl
@[simp] theorem State.atSearch_bitsRemaining (p : SearchPoint) : (s.atSearch p).bitsRemaining = s.bitsRemaining := rfl
@[simp] theorem State.atSearch_reloadTicks (p : SearchPoint) : (s.atSearch p).reloadTicks = s.reloadTicks := rfl
@[simp] theorem State.atSearch_reloadPeriod (p : SearchPoint) : (s.atSearch p).reloadPeriod = s.reloadPeriod := rfl
@[simp] theorem State.atSearch_timerRes (p : SearchPoint) : (s.atSearch p).timerRes = s.timerRes := rfl
@[simp] theorem State.atSearch_timerCompare (p : SearchPoint) : (s.atSearch p).timerCompare = s.timerCompare := rfl
@[simp] theorem State.atSearch_lineDrive (p : SearchPoint) : (s.atSearch p).lineDrive = s.lineDrive := rfl
@[simp] theorem State.atSearch_deviceId (p : SearchPoint) : (s.atSearch p).deviceId = s.deviceId := rfl
@[simp] theorem State.atSearch_lastDiscrepancy (p : SearchPoint) : (s.atSearch p).lastDiscrepancy = s.lastDiscrepancy := rfl
@[simp] theorem State.atSearch_lastFamilyDiscrepancy (p : SearchPoint) : (s.atSearch p).lastFamilyDiscrepancy = s.lastFamilyDiscrepancy := rfl
@[simp] theorem State.atSearch_lastDeviceFlag (p : SearchPoint) : (s.atSearch p).lastDeviceFlag = s.lastDeviceFlag := rfl
@[simp] theorem State.atSearch_lastZero (p : SearchPoint) : (s.atSearch p).lastZero = s.lastZero := rfl
@[simp] theorem State.atSearch_pos (p : SearchPoint) : (s.atSearch p).pos = s.pos := rfl
@[simp] theorem State.atSearch_idBit (p : SearchPoint) : (s.atSearch p).idBit = s.idBit := rfl
@[simp] theorem State.atSearch_cmpBit (p : SearchPoint) : (s.atSearch p).cmpBit = s.cmpBit := rfl
@[simp] theorem State.atSearch_dir (p : SearchPoint) : (s.atSearch p).dir = s.dir := rfl
@[simp] theorem State.atSearch_result (p : SearchPoint) : (s.atSearch p).result = s.result := rfl
@[simp] theorem State.atSearch_cmdBusy (p : SearchPoint) : (s.atSearch p).cmdBusy = s.cmdBusy := rfl
@[simp] theorem State.atSearch_cmdWord (p : SearchPoint) : (s.atSearch p).cmdWord = s.cmdWord := rfl
@[simp] theorem State.atSearch_phase (p : SearchPoint) : (s.atSearch p).phase = .search p := rfl
@[simp] theorem State.atSearch_initialised (p : SearchPoint) : (s.atSearch p).initialised = s.initialised := rfl
@[simp] theorem State.atSearch_hostCommands (p : SearchPoint) : (s.atSearch p).hostCommands = s.hostCommands := rfl
@[simp] theorem State.atSearch_lineInput (p : SearchPoint) : (s.atSearch p).lineInput = s.lineInput := rfl
@[simp] theorem State.atSearch_sampleCount (p : SearchPoint) : (s.atSearch p).sampleCount = s.sampleCount := rfl
@[simp] theorem State.atSearch_schedule (p : SearchPoint) : (s.atSearch p).schedule = s.schedule := rfl
@[simp] theorem State.atSearch_turnCount (p : SearchPoint) : (s.atSearch p).turnCount = s.turnCount := rfl
@[simp] theorem State.atSearch_config (p : SearchPoint) : (s.atSearch p).config = s.config := rfl

/-! ### `ret` -/

@[simp] theorem State.ret_state (v : Byte) : (s.ret v).state = s.state := rfl
@[simp] theorem State.ret_shiftRegister (v : Byte) : (s.ret v).shiftRegister = s.shiftRegister := rfl
@[simp] theorem State.ret_bitsRemaining (v : Byte) : (s.ret v).bitsRemaining = s.bitsRemaining := rfl
@[simp] theorem State.ret_reloadTicks (v : Byte) : (s.ret v).reloadTicks = s.reloadTicks := rfl
@[simp] theorem State.ret_reloadPeriod (v : Byte) : (s.ret v).reloadPeriod = s.reloadPeriod := rfl
@[simp] theorem State.ret_timerRes (v : Byte) : (s.ret v).timerRes = s.timerRes := rfl
@[simp] theorem State.ret_timerCompare (v : Byte) : (s.ret v).timerCompare = s.timerCompare := rfl
@[simp] theorem State.ret_lineDrive (v : Byte) : (s.ret v).lineDrive = s.lineDrive := rfl
@[simp] theorem State.ret_deviceId (v : Byte) : (s.ret v).deviceId = s.deviceId := rfl
@[simp] theorem State.ret_lastDiscrepancy (v : Byte) : (s.ret v).lastDiscrepancy = s.lastDiscrepancy := rfl
@[simp] theorem State.ret_lastFamilyDiscrepancy (v : Byte) : (s.ret v).lastFamilyDiscrepancy = s.lastFamilyDiscrepancy := rfl
@[simp] theorem State.ret_lastDeviceFlag (v : Byte) : (s.ret v).lastDeviceFlag = s.lastDeviceFlag := rfl
@[simp] theorem State.ret_lastZero (v : Byte) : (s.ret v).lastZero = s.lastZero := rfl
@[simp] theorem State.ret_pos (v : Byte) : (s.ret v).pos = s.pos := rfl
@[simp] theorem State.ret_idBit (v : Byte) : (s.ret v).idBit = s.idBit := rfl
@[simp] theorem State.ret_cmpBit (v : Byte) : (s.ret v).cmpBit = s.cmpBit := rfl
@[simp] theorem State.ret_dir (v : Byte) : (s.ret v).dir = s.dir := rfl
@[simp] theorem State.ret_result (v : Byte) : (s.ret v).result = v := rfl
@[simp] theorem State.ret_cmdBusy (v : Byte) : (s.ret v).cmdBusy = false := rfl
@[simp] theorem State.ret_cmdWord (v : Byte) : (s.ret v).cmdWord = s.cmdWord := rfl
@[simp] theorem State.ret_phase (v : Byte) : (s.ret v).phase = .start := rfl
@[simp] theorem State.ret_initialised (v : Byte) : (s.ret v).initialised = s.initialised := rfl
@[simp] theorem State.ret_hostCommands (v : Byte) : (s.ret v).hostCommands = s.hostCommands := rfl
@[simp] theorem State.ret_lineInput (v : Byte) : (s.ret v).lineInput = s.lineInput := rfl
@[simp] theorem State.ret_sampleCount (v : Byte) : (s.ret v).sampleCount = s.sampleCount := rfl
@[simp] theorem State.ret_schedule (v : Byte) : (s.ret v).schedule = s.schedule := rfl
@[simp] theorem State.ret_turnCount (v : Byte) : (s.ret v).turnCount = s.turnCount := rfl
@[simp] theorem State.ret_config (v : Byte) : (s.ret v).config = s.config := rfl

/-! ### `clearBookkeeping` -/

@[simp] theorem State.clearBookkeeping_state : (s.clearBookkeeping).state = s.state := rfl
@[simp] theorem State.clearBookkeeping_shiftRegister : (s.clearBookkeeping).shiftRegister = s.shiftRegister := rfl
@[simp] theorem State.clearBookkeeping_bitsRemaining : (s.clearBookkeeping).bitsRemaining = s.bitsRemaining := rfl
@[simp] theorem State.clearBookkeeping_reloadTicks : (s.clearBookkeeping).reloadTicks = s.reloadTicks := rfl
@[simp] theorem State.clearBookkeeping_reloadPeriod : (s.clearBookkeeping).reloadPeriod = s.reloadPeriod := rfl
@[simp] theorem State.clearBookkeeping_timerRes : (s.clearBookkeeping).timerRes = s.timerRes := rfl
@[simp] theorem State.clearBookkeeping_timerCompare : (s.clearBookkeeping).timerCompare = s.timerCompare := rfl
@[simp] theorem State.clearBookkeeping_lineDrive : (s.clearBookkeeping).lineDrive = s.lineDrive := rfl
@[simp] theorem State.clearBookkeeping_deviceId : (s.clearBookkeeping).deviceId = s.deviceId := rfl
@[simp] theorem State.clearBookkeeping_lastDiscrepancy : (s.clearBookkeeping).lastDiscrepancy = 0 := rfl
@[simp] theorem State.clearBookkeeping_lastFamilyDiscrepancy : (s.clearBookkeeping).lastFamilyDiscrepancy = 0 := rfl
@[simp] theorem State.clearBookkeeping_lastDeviceFlag : (s.clearBookkeeping).lastDeviceFlag = false := rfl
@[simp] theorem State.clearBookkeeping_lastZero : (s.clearBookkeeping).lastZero = 0 := rfl
@[simp] theorem State.clearBookkeeping_pos : (s.clearBookkeeping).pos = s.pos := rfl
@[simp] theorem State.clearBookkeeping_idBit : (s.clearBookkeeping).idBit = s.idBit := rfl
@[simp] theorem State.clearBookkeeping_cmpBit : (s.clearBookkeeping).cmpBit = s.cmpBit := rfl
@[simp] theorem State.clearBookkeeping_dir : (s.clearBookkeeping).dir = s.dir := rfl
@[simp] theorem State.clearBookkeeping_result : (s.clearBookkeeping).result = s.result := rfl
@[simp] theorem State.clearBookkeeping_cmdBusy : (s.clearBookkeeping).cmdBusy = s.cmdBusy := rfl
@[simp] theorem State.clearBookkeeping_cmdWord : (s.clearBookkeeping).cmdWord = s.cmdWord := rfl
@[simp] theorem State.clearBookkeeping_phase : (s.clearBookkeeping).phase = s.phase := rfl
@[simp] theorem State.clearBookkeeping_initialised : (s.clearBookkeeping).initialised = s.initialised := rfl
@[simp] theorem State.clearBookkeeping_hostCommands : (s.clearBookkeeping).hostCommands = s.hostCommands := rfl
@[simp] theorem State.clearBookkeeping_lineInput : (s.clearBookkeeping).lineInput = s.lineInput := rfl
@[simp] theorem State.clearBookkeeping_sampleCount : (s.clearBookkeeping).sampleCount = s.sampleCount := rfl
@[simp] theorem State.clearBookkeeping_schedule : (s.clearBookkeeping).schedule = s.schedule := rfl
@[simp] theorem State.clearBookkeeping_turnCount : (s.clearBookkeeping).turnCount = s.turnCount := rfl
@[simp] theorem State.clearBookkeeping_config : (s.clearBookkeeping).config = s.config := rfl

/-! ### `setIdBit` -/

@[simp] theorem State.setIdBit_state (p : BitVec 7) (v : Bool) : (s.setIdBit p v).state = s.state := rfl
@[simp] theorem State.setIdBit_shiftRegister (p : BitVec 7) (v : Bool) : (s.setIdBit p v).shiftRegister = s.shiftRegister := rfl
@[simp] theorem State.setIdBit_bitsRemaining (p : BitVec 7) (v : Bool) : (s.setIdBit p v).bitsRemaining = s.bitsRemaining := rfl
@[simp] theorem State.setIdBit_reloadTicks (p : BitVec 7) (v : Bool) : (s.setIdBit p v).reloadTicks = s.reloadTicks := rfl
@[simp] theorem State.setIdBit_reloadPeriod (p : BitVec 7) (v : Bool) : (s.setIdBit p v).reloadPeriod = s.reloadPeriod := rfl
@[simp] theorem State.setIdBit_timerRes (p : BitVec 7) (v : Bool) : (s.setIdBit p v).timerRes = s.timerRes := rfl
@[simp] theorem State.setIdBit_timerCompare (p : BitVec 7) (v : Bool) : (s.setIdBit p v).timerCompare = s.timerCompare := rfl
@[simp] theorem State.setIdBit_lineDrive (p : BitVec 7) (v : Bool) : (s.setIdBit p v).lineDrive = s.lineDrive := rfl
@[simp] theorem State.setIdBit_deviceId (p : BitVec 7) (v : Bool) : (s.setIdBit p v).deviceId = s.deviceId.setIfInBounds (idByteIndex p) (withIdBit (s.idByte (idByteIndex p)) p v) := rfl
@[simp] theorem State.setIdBit_lastDiscrepancy (p : BitVec 7) (v : Bool) : (s.setIdBit p v).lastDiscrepancy = s.lastDiscrepancy := rfl
@[simp] theorem State.setIdBit_lastFamilyDiscrepancy (p : BitVec 7) (v : Bool) : (s.setIdBit p v).lastFamilyDiscrepancy = s.lastFamilyDiscrepancy := rfl
@[simp] theorem State.setIdBit_lastDeviceFlag (p : BitVec 7) (v : Bool) : (s.setIdBit p v).lastDeviceFlag = s.lastDeviceFlag := rfl
@[simp] theorem State.setIdBit_lastZero (p : BitVec 7) (v : Bool) : (s.setIdBit p v).lastZero = s.lastZero := rfl
@[simp] theorem State.setIdBit_pos (p : BitVec 7) (v : Bool) : (s.setIdBit p v).pos = s.pos := rfl
@[simp] theorem State.setIdBit_idBit (p : BitVec 7) (v : Bool) : (s.setIdBit p v).idBit = s.idBit := rfl
@[simp] theorem State.setIdBit_cmpBit (p : BitVec 7) (v : Bool) : (s.setIdBit p v).cmpBit = s.cmpBit := rfl
@[simp] theorem State.setIdBit_dir (p : BitVec 7) (v : Bool) : (s.setIdBit p v).dir = s.dir := rfl
@[simp] theorem State.setIdBit_result (p : BitVec 7) (v : Bool) : (s.setIdBit p v).result = s.result := rfl
@[simp] theorem State.setIdBit_cmdBusy (p : BitVec 7) (v : Bool) : (s.setIdBit p v).cmdBusy = s.cmdBusy := rfl
@[simp] theorem State.setIdBit_cmdWord (p : BitVec 7) (v : Bool) : (s.setIdBit p v).cmdWord = s.cmdWord := rfl
@[simp] theorem State.setIdBit_phase (p : BitVec 7) (v : Bool) : (s.setIdBit p v).phase = s.phase := rfl
@[simp] theorem State.setIdBit_initialised (p : BitVec 7) (v : Bool) : (s.setIdBit p v).initialised = s.initialised := rfl
@[simp] theorem State.setIdBit_hostCommands (p : BitVec 7) (v : Bool) : (s.setIdBit p v).hostCommands = s.hostCommands := rfl
@[simp] theorem State.setIdBit_lineInput (p : BitVec 7) (v : Bool) : (s.setIdBit p v).lineInput = s.lineInput := rfl
@[simp] theorem State.setIdBit_sampleCount (p : BitVec 7) (v : Bool) : (s.setIdBit p v).sampleCount = s.sampleCount := rfl
@[simp] theorem State.setIdBit_schedule (p : BitVec 7) (v : Bool) : (s.setIdBit p v).schedule = s.schedule := rfl
@[simp] theorem State.setIdBit_turnCount (p : BitVec 7) (v : Bool) : (s.setIdBit p v).turnCount = s.turnCount := rfl
@[simp] theorem State.setIdBit_config (p : BitVec 7) (v : Bool) : (s.setIdBit p v).config = s.config := rfl

/-! ### `resetBlock` -/

@[simp] theorem State.resetBlock_state : (s.resetBlock).state = .idle := rfl
@[simp] theorem State.resetBlock_shiftRegister : (s.resetBlock).shiftRegister = 0x00 := rfl
@[simp] theorem State.resetBlock_bitsRemaining : (s.resetBlock).bitsRemaining = 0x00 := rfl
@[simp] theorem State.resetBlock_reloadTicks : (s.resetBlock).reloadTicks = 0x00 := rfl
@[simp] theorem State.resetBlock_reloadPeriod : (s.resetBlock).reloadPeriod = 0x0000 := rfl
@[simp] theorem State.resetBlock_timerRes : (s.resetBlock).timerRes = .r1 := rfl
@[simp] theorem State.resetBlock_timerCompare : (s.resetBlock).timerCompare = BitVec.ofNat 8 s.config.tIdle.counts := rfl
@[simp] theorem State.resetBlock_lineDrive : (s.resetBlock).lineDrive = .released := rfl
@[simp] theorem State.resetBlock_deviceId : (s.resetBlock).deviceId = State.reset.deviceId := rfl
@[simp] theorem State.resetBlock_lastDiscrepancy : (s.resetBlock).lastDiscrepancy = 0 := rfl
@[simp] theorem State.resetBlock_lastFamilyDiscrepancy : (s.resetBlock).lastFamilyDiscrepancy = 0 := rfl
@[simp] theorem State.resetBlock_lastDeviceFlag : (s.resetBlock).lastDeviceFlag = false := rfl
@[simp] theorem State.resetBlock_lastZero : (s.resetBlock).lastZero = 0 := rfl
@[simp] theorem State.resetBlock_pos : (s.resetBlock).pos = 0 := rfl
@[simp] theorem State.resetBlock_idBit : (s.resetBlock).idBit = false := rfl
@[simp] theorem State.resetBlock_cmpBit : (s.resetBlock).cmpBit = false := rfl
@[simp] theorem State.resetBlock_dir : (s.resetBlock).dir = false := rfl
@[simp] theorem State.resetBlock_result : (s.resetBlock).result = 0x00 := rfl
@[simp] theorem State.resetBlock_cmdBusy : (s.resetBlock).cmdBusy = false := rfl
@[simp] theorem State.resetBlock_cmdWord : (s.resetBlock).cmdWord = 0 := rfl
@[simp] theorem State.resetBlock_phase : (s.resetBlock).phase = .start := rfl
@[simp] theorem State.resetBlock_initialised : (s.resetBlock).initialised = true := rfl
@[simp] theorem State.resetBlock_hostCommands : (s.resetBlock).hostCommands = s.hostCommands := rfl
@[simp] theorem State.resetBlock_lineInput : (s.resetBlock).lineInput = s.lineInput := rfl
@[simp] theorem State.resetBlock_sampleCount : (s.resetBlock).sampleCount = s.sampleCount := rfl
@[simp] theorem State.resetBlock_schedule : (s.resetBlock).schedule = s.schedule := rfl
@[simp] theorem State.resetBlock_turnCount : (s.resetBlock).turnCount = s.turnCount := rfl
@[simp] theorem State.resetBlock_config : (s.resetBlock).config = s.config := rfl

/-! ### `tick` -/

@[simp] theorem State.tick_state : (s.tick).state = s.state := rfl
@[simp] theorem State.tick_shiftRegister : (s.tick).shiftRegister = s.shiftRegister := rfl
@[simp] theorem State.tick_bitsRemaining : (s.tick).bitsRemaining = s.bitsRemaining := rfl
@[simp] theorem State.tick_reloadTicks : (s.tick).reloadTicks = s.reloadTicks := rfl
@[simp] theorem State.tick_reloadPeriod : (s.tick).reloadPeriod = s.reloadPeriod := rfl
@[simp] theorem State.tick_timerRes : (s.tick).timerRes = s.timerRes := rfl
@[simp] theorem State.tick_timerCompare : (s.tick).timerCompare = s.timerCompare := rfl
@[simp] theorem State.tick_lineDrive : (s.tick).lineDrive = s.lineDrive := rfl
@[simp] theorem State.tick_deviceId : (s.tick).deviceId = s.deviceId := rfl
@[simp] theorem State.tick_lastDiscrepancy : (s.tick).lastDiscrepancy = s.lastDiscrepancy := rfl
@[simp] theorem State.tick_lastFamilyDiscrepancy : (s.tick).lastFamilyDiscrepancy = s.lastFamilyDiscrepancy := rfl
@[simp] theorem State.tick_lastDeviceFlag : (s.tick).lastDeviceFlag = s.lastDeviceFlag := rfl
@[simp] theorem State.tick_lastZero : (s.tick).lastZero = s.lastZero := rfl
@[simp] theorem State.tick_pos : (s.tick).pos = s.pos := rfl
@[simp] theorem State.tick_idBit : (s.tick).idBit = s.idBit := rfl
@[simp] theorem State.tick_cmpBit : (s.tick).cmpBit = s.cmpBit := rfl
@[simp] theorem State.tick_dir : (s.tick).dir = s.dir := rfl
@[simp] theorem State.tick_result : (s.tick).result = s.result := rfl
@[simp] theorem State.tick_cmdBusy : (s.tick).cmdBusy = s.cmdBusy := rfl
@[simp] theorem State.tick_cmdWord : (s.tick).cmdWord = s.cmdWord := rfl
@[simp] theorem State.tick_phase : (s.tick).phase = s.phase := rfl
@[simp] theorem State.tick_initialised : (s.tick).initialised = s.initialised := rfl
@[simp] theorem State.tick_hostCommands : (s.tick).hostCommands = s.hostCommands := rfl
@[simp] theorem State.tick_lineInput : (s.tick).lineInput = s.lineInput := rfl
@[simp] theorem State.tick_sampleCount : (s.tick).sampleCount = s.sampleCount := rfl
@[simp] theorem State.tick_schedule : (s.tick).schedule = s.schedule.tail := rfl
@[simp] theorem State.tick_turnCount : (s.tick).turnCount = s.turnCount + 1 := rfl
@[simp] theorem State.tick_config : (s.tick).config = s.config := rfl

/-! ### `accept` -/

@[simp] theorem State.accept_state (w : CmdWord) : (s.accept w).state = s.state := rfl
@[simp] theorem State.accept_shiftRegister (w : CmdWord) : (s.accept w).shiftRegister = s.shiftRegister := rfl
@[simp] theorem State.accept_bitsRemaining (w : CmdWord) : (s.accept w).bitsRemaining = s.bitsRemaining := rfl
@[simp] theorem State.accept_reloadTicks (w : CmdWord) : (s.accept w).reloadTicks = s.reloadTicks := rfl
@[simp] theorem State.accept_reloadPeriod (w : CmdWord) : (s.accept w).reloadPeriod = s.reloadPeriod := rfl
@[simp] theorem State.accept_timerRes (w : CmdWord) : (s.accept w).timerRes = s.timerRes := rfl
@[simp] theorem State.accept_timerCompare (w : CmdWord) : (s.accept w).timerCompare = s.timerCompare := rfl
@[simp] theorem State.accept_lineDrive (w : CmdWord) : (s.accept w).lineDrive = s.lineDrive := rfl
@[simp] theorem State.accept_deviceId (w : CmdWord) : (s.accept w).deviceId = s.deviceId := rfl
@[simp] theorem State.accept_lastDiscrepancy (w : CmdWord) : (s.accept w).lastDiscrepancy = s.lastDiscrepancy := rfl
@[simp] theorem State.accept_lastFamilyDiscrepancy (w : CmdWord) : (s.accept w).lastFamilyDiscrepancy = s.lastFamilyDiscrepancy := rfl
@[simp] theorem State.accept_lastDeviceFlag (w : CmdWord) : (s.accept w).lastDeviceFlag = s.lastDeviceFlag := rfl
@[simp] theorem State.accept_lastZero (w : CmdWord) : (s.accept w).lastZero = s.lastZero := rfl
@[simp] theorem State.accept_pos (w : CmdWord) : (s.accept w).pos = s.pos := rfl
@[simp] theorem State.accept_idBit (w : CmdWord) : (s.accept w).idBit = s.idBit := rfl
@[simp] theorem State.accept_cmpBit (w : CmdWord) : (s.accept w).cmpBit = s.cmpBit := rfl
@[simp] theorem State.accept_dir (w : CmdWord) : (s.accept w).dir = s.dir := rfl
@[simp] theorem State.accept_result (w : CmdWord) : (s.accept w).result = s.result := rfl
@[simp] theorem State.accept_cmdBusy (w : CmdWord) : (s.accept w).cmdBusy = true := rfl
@[simp] theorem State.accept_cmdWord (w : CmdWord) : (s.accept w).cmdWord = w := rfl
@[simp] theorem State.accept_phase (w : CmdWord) : (s.accept w).phase = .start := rfl
@[simp] theorem State.accept_initialised (w : CmdWord) : (s.accept w).initialised = s.initialised := rfl
@[simp] theorem State.accept_hostCommands (w : CmdWord) : (s.accept w).hostCommands = s.hostCommands.tail := rfl
@[simp] theorem State.accept_lineInput (w : CmdWord) : (s.accept w).lineInput = s.lineInput := rfl
@[simp] theorem State.accept_sampleCount (w : CmdWord) : (s.accept w).sampleCount = s.sampleCount := rfl
@[simp] theorem State.accept_schedule (w : CmdWord) : (s.accept w).schedule = s.schedule := rfl
@[simp] theorem State.accept_turnCount (w : CmdWord) : (s.accept w).turnCount = s.turnCount := rfl
@[simp] theorem State.accept_config (w : CmdWord) : (s.accept w).config = s.config := rfl

/-! ### `afterSample` -/

@[simp] theorem State.afterSample_state : s.afterSample.state = s.state := by
  unfold State.afterSample; split <;> rfl
@[simp] theorem State.afterSample_shiftRegister : s.afterSample.shiftRegister = s.shiftRegister := by
  unfold State.afterSample; split <;> rfl
@[simp] theorem State.afterSample_bitsRemaining : s.afterSample.bitsRemaining = s.bitsRemaining := by
  unfold State.afterSample; split <;> rfl
@[simp] theorem State.afterSample_reloadTicks : s.afterSample.reloadTicks = s.reloadTicks := by
  unfold State.afterSample; split <;> rfl
@[simp] theorem State.afterSample_reloadPeriod : s.afterSample.reloadPeriod = s.reloadPeriod := by
  unfold State.afterSample; split <;> rfl
@[simp] theorem State.afterSample_timerRes : s.afterSample.timerRes = s.timerRes := by
  unfold State.afterSample; split <;> rfl
@[simp] theorem State.afterSample_timerCompare : s.afterSample.timerCompare = s.timerCompare := by
  unfold State.afterSample; split <;> rfl
@[simp] theorem State.afterSample_lineDrive : s.afterSample.lineDrive = s.lineDrive := by
  unfold State.afterSample; split <;> rfl
@[simp] theorem State.afterSample_deviceId : s.afterSample.deviceId = s.deviceId := by
  unfold State.afterSample; split <;> rfl
@[simp] theorem State.afterSample_lastDiscrepancy : s.afterSample.lastDiscrepancy = s.lastDiscrepancy := by
  unfold State.afterSample; split <;> rfl
@[simp] theorem State.afterSample_lastFamilyDiscrepancy : s.afterSample.lastFamilyDiscrepancy = s.lastFamilyDiscrepancy := by
  unfold State.afterSample; split <;> rfl
@[simp] theorem State.afterSample_lastDeviceFlag : s.afterSample.lastDeviceFlag = s.lastDeviceFlag := by
  unfold State.afterSample; split <;> rfl
@[simp] theorem State.afterSample_lastZero : s.afterSample.lastZero = s.lastZero := by
  unfold State.afterSample; split <;> rfl
@[simp] theorem State.afterSample_pos : s.afterSample.pos = s.pos := by
  unfold State.afterSample; split <;> rfl
@[simp] theorem State.afterSample_idBit : s.afterSample.idBit = s.idBit := by
  unfold State.afterSample; split <;> rfl
@[simp] theorem State.afterSample_cmpBit : s.afterSample.cmpBit = s.cmpBit := by
  unfold State.afterSample; split <;> rfl
@[simp] theorem State.afterSample_dir : s.afterSample.dir = s.dir := by
  unfold State.afterSample; split <;> rfl
@[simp] theorem State.afterSample_result : s.afterSample.result = s.result := by
  unfold State.afterSample; split <;> rfl
@[simp] theorem State.afterSample_cmdBusy : s.afterSample.cmdBusy = s.cmdBusy := by
  unfold State.afterSample; split <;> rfl
@[simp] theorem State.afterSample_cmdWord : s.afterSample.cmdWord = s.cmdWord := by
  unfold State.afterSample; split <;> rfl
@[simp] theorem State.afterSample_phase : s.afterSample.phase = s.phase := by
  unfold State.afterSample; split <;> rfl
@[simp] theorem State.afterSample_initialised : s.afterSample.initialised = s.initialised := by
  unfold State.afterSample; split <;> rfl
@[simp] theorem State.afterSample_hostCommands : s.afterSample.hostCommands = s.hostCommands := by
  unfold State.afterSample; split <;> rfl
@[simp] theorem State.afterSample_schedule : s.afterSample.schedule = s.schedule := by
  unfold State.afterSample; split <;> rfl
@[simp] theorem State.afterSample_turnCount : s.afterSample.turnCount = s.turnCount := by
  unfold State.afterSample; split <;> rfl
@[simp] theorem State.afterSample_config : s.afterSample.config = s.config := by
  unfold State.afterSample; split <;> rfl

end Sys2Proof.Machine
end

