-- ==== Sys2Proof/Laws/Ops.lean ====
section
/-! SUPPORT. What each shared operation can do, said once: the operand and flag computations as arithmetic, the
sample, the gate, the shapes of a command, the counted event, and the step. -/

namespace Sys2Proof.Machine

/-! ### The harness -/

/-- R234: a harness that places a state code does not re-arm an engine that is not idle. -/
theorem placeStateCode_state_of_not_idle {s : State} (h : s.state ≠ .idle) (w : Nat) :
    (s.placeStateCode w).state = s.state := by simp [State.placeStateCode, State.isIdle, h]

/-- In an idle block the code is placed. -/
theorem placeStateCode_state_of_idle {s : State} (h : s.state = .idle) (w : Nat) :
    (s.placeStateCode w).state = BusState.ofCode (BitVec.ofNat 4 w) := by simp [State.placeStateCode, State.isIdle, h]

/-! ### Flags and operands -/

theorem boolByte_toNat (b : Bool) : (boolByte b).toNat = if b then 1 else 0 := by cases b <;> rfl

/-- The slot shift as arithmetic: the bit enters with weight 128, the old bits move down. -/
theorem shiftIn_toNat (b : Bool) (sr : Byte) : (shiftIn b sr).toNat = (if b then 128 else 0) + sr.toNat / 2 := by
  revert sr b; decide

theorem shiftIn_bit (b : Bool) (sr : Byte) (k : Nat) (hk : k < 8) :
    (shiftIn b sr).getLsbD k = if k = 7 then b else sr.getLsbD (k + 1) := by
  revert b sr; revert k; decide

@[simp] theorem outBit_iff (s : State) : s.outBit = true ↔ s.shiftRegister.toNat % 2 = 1 := by
  simp [State.outBit, BitVec.getLsbD, Nat.testBit_zero]

theorem sampledBit_iff (s : State) : s.sampledBit = true ↔ 128 ≤ s.shiftRegister.toNat := by
  unfold State.sampledBit; generalize s.shiftRegister = sr; revert sr; decide

theorem presence_iff (s : State) : s.presence = true ↔ s.shiftRegister.toNat < 128 := by
  unfold State.presence; generalize s.shiftRegister = sr; revert sr; decide

@[simp] theorem isIdle_iff (s : State) : s.isIdle = true ↔ s.state = .idle := by simp [State.isIdle]

theorem moreBits_iff (b : Byte) : moreBits b = true ↔ b ≠ 1 := by
  revert b; decide

theorem periodOver_iff (p : HWord) : periodOver p = true ↔ p = 1 := by
  unfold periodOver; constructor
  · intro h; have := eq_of_beq h; bv_omega
  · rintro rfl; decide

/-- The compare register holds a count of `N(x)` as `x` itself: 256 is held as 0 (R10, R101). -/
@[simp] theorem ofNat_fullCount (x : Byte) : BitVec.ofNat 8 (fullCount x) = x := by
  revert x; decide

theorem fullCount_pos (x : Byte) : 1 ≤ fullCount x ∧ fullCount x ≤ 256 := by
  revert x; decide

theorem fullPeriod_pos (x : HWord) : 1 ≤ fullPeriod x := by
  unfold fullPeriod; split <;> [omega; (rename_i h; have : x.toNat ≠ 0 := fun e => h (by simpa using BitVec.eq_of_toNat_eq e); omega)]

/-- One counted event less. -/
theorem fullPeriod_sub_one (x : HWord) (h : x ≠ 1) : fullPeriod (x - 1) + 1 = fullPeriod x := by
  unfold fullPeriod
  split <;> split <;> bv_omega

theorem fullPeriod_one : fullPeriod 1 = 1 := rfl

/-! ### The line -/

theorem sampleBit_released (s : State) (h : s.lineDrive = .released) : s.sampleBit = s.lineLevel := by
  simp [State.sampleBit, h]

theorem lineLevel_eq (s : State) : s.lineLevel = s.lineInput.head?.getD (Config.freeSample s.sampleCount) := by
  unfold State.lineLevel; cases s.lineInput <;> rfl

theorem afterSample_released (s : State) (h : s.lineDrive = .released) :
    s.afterSample = { s with lineInput := s.lineInput.tail, sampleCount := s.sampleCount + 1 } := by
  simp [State.afterSample, h]

/-- Sampling takes nothing, or the environment's next bit. -/
theorem afterSample_input (s : State) :
    (s.afterSample.lineInput = s.lineInput ∧ s.afterSample.sampleCount = s.sampleCount)
      ∨ (s.afterSample.lineInput = s.lineInput.tail ∧ s.afterSample.sampleCount = s.sampleCount + 1) := by
  unfold State.afterSample; split <;> simp

/-! ### The front end's shapes -/

theorem whenIdle_idle {s : State} (h : s.state = .idle) (f : State → State) : whenIdle s f = .next (f s) := by
  simp [whenIdle, h]

theorem whenIdle_held {s : State} (h : s.state ≠ .idle) (f : State → State) : whenIdle s f = .next s := by
  simp [whenIdle, h]

/-- A gated step that answers has been taken in `Idle`, or has changed nothing. -/
theorem whenIdle_cases {s t : State} {f : State → State} (h : whenIdle s f = .next t) :
    (s.state = .idle ∧ t = f s) ∨ (s.state ≠ .idle ∧ t = s) := by
  by_cases hs : s.state = .idle
  · rw [whenIdle_idle hs] at h; exact .inl ⟨hs, by injection h with h; exact h.symm⟩
  · rw [whenIdle_held hs] at h; exact .inr ⟨hs, by injection h with h; exact h.symm⟩

/-- What a command that arms and returns at once can do. -/
theorem armAndReturn_cases {s t : State} {arm : State → State} (h : armAndReturn s arm = .next t) :
    (s.phase = .finish ∧ t = s.ret 0x00)
      ∨ (s.phase ≠ .finish ∧ s.state = .idle ∧ t = (arm s).atPhase .finish)
      ∨ (s.phase ≠ .finish ∧ s.state ≠ .idle ∧ t = s) := by
  unfold armAndReturn at h
  split at h
  · next hp => exact .inl ⟨hp, by injection h with h; exact h.symm⟩
  · next hp => exact .inr ((whenIdle_cases h).imp (fun ⟨a, b⟩ => ⟨by simp [hp], a, b⟩) (fun ⟨a, b⟩ => ⟨by simp [hp], a, b⟩))
  · next hp => exact .inr ((whenIdle_cases h).imp (fun ⟨a, b⟩ => ⟨by simp [hp], a, b⟩) (fun ⟨a, b⟩ => ⟨by simp [hp], a, b⟩))

/-- What a command that arms, waits and returns a value can do. -/
theorem armAndCollect_cases {s t : State} {arm : State → State} {value : State → Byte}
    (h : armAndCollect s arm value = .next t) :
    (s.phase = .finish ∧ s.state = .idle ∧ t = s.ret (value s))
      ∨ (s.phase ≠ .finish ∧ s.state = .idle ∧ t = (arm s).atPhase .finish)
      ∨ (s.state ≠ .idle ∧ t = s) := by
  unfold armAndCollect at h
  split at h
  · next hp => exact (whenIdle_cases h).elim (fun ⟨a, b⟩ => .inl ⟨hp, a, b⟩) (fun ⟨a, b⟩ => .inr (.inr ⟨a, b⟩))
  · next hp => exact (whenIdle_cases h).elim (fun ⟨a, b⟩ => .inr (.inl ⟨by simp [hp], a, b⟩)) (fun ⟨a, b⟩ => .inr (.inr ⟨a, b⟩))
  · next hp => exact (whenIdle_cases h).elim (fun ⟨a, b⟩ => .inr (.inl ⟨by simp [hp], a, b⟩)) (fun ⟨a, b⟩ => .inr (.inr ⟨a, b⟩))

/-! ### The counted event -/

theorem countEvent_last {s : State} (h : s.reloadPeriod = 1) (done : State → State) :
    countEvent s done
      = .next (((done { s with reloadPeriod := s.reloadPeriod - 1 }).setTimerTo s.config.tIdle).toState .idle) := by
  simp [countEvent, (periodOver_iff _).mpr h]

/-- The set-up of a delay holds `reloadTicks` itself in the compare register. -/
theorem setUpDelay_eq (s : State) (r : Resolution) :
    setUpDelay s r = .next { s with state := .delaying, timerRes := r, timerCompare := s.reloadTicks } := by
  simp [setUpDelay, State.setTimer, State.toState]

theorem countEvent_more {s : State} (h : s.reloadPeriod ≠ 1) (done : State → State) :
    countEvent s done
      = .next ({ s with reloadPeriod := s.reloadPeriod - 1 }.setTimer s.timerRes (fullCount s.reloadTicks)) := by
  have : periodOver s.reloadPeriod = false := Bool.eq_false_iff.mpr (mt (periodOver_iff _).mp h)
  simp [countEvent, this]

/-! ### The step -/

@[simp] theorem ofCode_code (b : BusState) : BusState.ofCode b.code = b := by cases b <;> rfl

@[simp] theorem code_ofCode (c : StateCode) : (BusState.ofCode c).code = c := by revert c; decide

@[simp] theorem decodeState_code (b : BusState) : decodeState b.code = b.microStep := by simp [decodeState]

/-- The handler runs the micro-step of the value in `state`. -/
theorem event_eq (s : State) : event s = exec s.state.microStep s := by simp [event, State.deliverEvent]

/-- Every handler invocation ends in a next state (R100: the step function is total). -/
theorem event_next (s : State) : ∃ t, event s = .next t := by
  rw [event_eq]
  cases s.state <;>
    simp [BusState.microStep, exec, execStIdle, execStStartBit, execStReadWait, execStSample, execStRelease,
      execStResetPulse, execStResetRelease, execStResetSample, execStResetRecover, execStDelay1, execStDelay8,
      execStDelay128, setUpDelay, execStDelaying, execStDelayEnd, execStStrongPullup, execStStrongPullupDelay,
      countEvent] <;>
    (try split) <;> simp

/-- The three kinds of step: the reset input, one handler invocation, one front-end step. -/
theorem step_cases (s : State) :
    (s.schedule.head? = some .resetInput ∧ step s = .next s.tick.resetBlock)
      ∨ (s.schedule.head? ≠ some .resetInput ∧ step s = event s.tick)
      ∨ (s.schedule.head? ≠ some .resetInput ∧ s.frontEndReady = true ∧
          step s = match fetchCommand s.tick with
            | .run i s' => exec i s'
            | .settled s' => .next s'
            | .stop r => .refused r) := by
  unfold step fetch
  rcases hs : s.schedule with _ | ⟨u, us⟩
  · by_cases hr : (s.frontEndReady && s.turnToFrontEnd) = true
    · exact .inr (.inr ⟨by simp, by simp_all, by simp [hr] <;> rfl⟩)
    · exact .inr (.inl ⟨by simp, by simp [hr] <;> rfl⟩)
  · cases u
    · by_cases hr : (s.frontEndReady && s.turnToFrontEnd) = true
      · exact .inr (.inr ⟨by simp, by simp_all, by simp [hr] <;> rfl⟩)
      · exact .inr (.inl ⟨by simp, by simp [hr] <;> rfl⟩)
    · by_cases hr : (s.frontEndReady && s.turnToFrontEnd) = true
      · exact .inr (.inr ⟨by simp, by simp_all, by simp [hr] <;> rfl⟩)
      · exact .inr (.inl ⟨by simp, by simp [hr] <;> rfl⟩)
    · exact .inl ⟨rfl, rfl⟩

/-- What the front end's turn can execute: the running command's next step, a command just accepted, or, where there
is neither, the engine's micro-step. -/
theorem fetchCommand_run {s t : State} {i : Instr} (h : fetchCommand s = .run i t) :
    (s.running = true ∧ decodeCmd s.cmdWord = .ok i ∧ t = s)
      ∨ (s.running = false ∧ ∃ w ws, s.hostCommands = w :: ws ∧ decodeCmd w = .ok i
          ∧ (s.initialised = true ∨ i = .init) ∧ t = s.accept w)
      ∨ (s.running = false ∧ s.hostCommands = [] ∧ i = s.deliverEvent ∧ t = s) := by
  unfold fetchCommand at h
  split at h
  · next hr =>
    split at h
    · cases h
    · injection h with h1 h2; subst h1 h2; exact .inl ⟨hr, ‹_›, rfl⟩
  · next hr =>
    have hr : s.running = false := by simpa using hr
    split at h
    · next w ws hw =>
      unfold present at h
      split at h
      · cases h
      · split at h
        · next hi =>
          injection h with h1 h2; subst h1 h2
          exact .inr (.inl ⟨hr, w, ws, hw, ‹_›, by simpa using hi, rfl⟩)
        · cases h
    · injection h with h1 h2; subst h1 h2; exact .inr (.inr ⟨hr, ‹_›, rfl, rfl⟩)

/-- What the front end's turn can refuse: a word that decodes to no command, or a command before the first INIT. -/
theorem fetchCommand_stop {s : State} {r : Refusal} (h : fetchCommand s = .stop r) :
    (s.running = true ∧ ∃ op, decodeCmd s.cmdWord = .error (.reservedOpcode op) ∧ r = .reservedOpcode op)
      ∨ (s.running = false ∧ ∃ w ws, s.hostCommands = w :: ws ∧
          ((∃ op, decodeCmd w = .error (.reservedOpcode op) ∧ r = .reservedOpcode op)
            ∨ (∃ i, decodeCmd w = .ok i ∧ i ≠ .init ∧ s.initialised = false ∧ r = .beforeInit))) := by
  unfold fetchCommand at h
  split at h
  · next hr =>
    split at h
    · next op ho => injection h with h1; exact .inl ⟨hr, op, ho, h1.symm⟩
    · cases h
  · next hr =>
    have hr : s.running = false := by simpa using hr
    split at h
    · next w ws hw =>
      unfold present at h
      refine .inr ⟨hr, w, ws, hw, ?_⟩
      split at h
      · next op ho => injection h with h1; exact .inl ⟨op, ho, h1.symm⟩
      · next i hi =>
        split at h
        · cases h
        · next hn =>
          injection h with h1
          simp only [Bool.or_eq_true, beq_iff_eq, not_or, Bool.not_eq_true] at hn
          exact .inr ⟨i, hi, hn.2, hn.1, h1.symm⟩
    · cases h

theorem andThen_next (s : State) (f : State → Host.Outcome State Fault Refusal) : andThen (.next s) f = f s := rfl

theorem events_succ {s t : State} (h : event s = .next t) (n : Nat) : events (n + 1) s = events n t := by
  simp [events, h, andThen]

theorem steps_succ {s t : State} (h : step s = .next t) (n : Nat) : steps (n + 1) s = steps n t := by
  simp [steps, h, andThen]

end Sys2Proof.Machine
end

