-- ==== Sys2Proof/Laws/Invariants.lean ====
section
/-! SUPPORT. Which fields the parts of the invariant read, said once: a step that leaves those fields alone keeps
the part. -/

namespace Sys2Proof.Machine

/-- The engine's part reads `state`, `lineDrive`, `timerRes` and `bitsRemaining` only. -/
theorem EngineInv.of_fields {s t : State} (h : EngineInv s) (hs : t.state = s.state)
    (hl : t.lineDrive = s.lineDrive) (hr : t.timerRes = s.timerRes) (hb : t.bitsRemaining = s.bitsRemaining) :
    EngineInv t where
  idleReleased := by rw [hs, hl]; exact h.idleReleased
  highIff := by rw [hs, hl]; exact h.highIff
  lowIff := by rw [hs, hl]; exact h.lowIff
  resolution := by rw [hs, hr]; exact h.resolution
  notDelayEnd := by rw [hs]; exact h.notDelayEnd
  slotsLeft := by rw [hs, hb]; exact h.slotsLeft

/-- The search record's part reads the bookkeeping, `pos` and the control point only; outside a SEARCH the control
point asks for nothing. -/
theorem SearchInv.of_fields {s t : State} (h : SearchInv s) (hd : t.lastDiscrepancy = s.lastDiscrepancy)
    (hz : t.lastZero = s.lastZero) (hf : t.lastFamilyDiscrepancy = s.lastFamilyDiscrepancy)
    (hl : t.lastDeviceFlag = s.lastDeviceFlag) (hp : t.pos = s.pos)
    (hph : t.phase = s.phase ∨ t.phase = .start ∨ t.phase = .finish) : SearchInv t where
  discrepancy := by rw [hd]; exact h.discrepancy
  zero := by rw [hz]; exact h.zero
  family := by rw [hf]; exact h.family
  lastDevice := by rw [hd, hl]; exact h.lastDevice
  position := by
    intro p hq; rw [hp]
    rcases hph with e | e | e <;> rw [e] at hq
    · exact h.position p hq
    · cases hq
    · cases hq
  passOpen := by
    intro p hq; rw [hl]
    rcases hph with e | e | e <;> rw [e] at hq
    · exact h.passOpen p hq
    · cases hq
    · cases hq

/-- An admitted parameter set has R10's resolutions. -/
theorem resolutions_of_wellFormed {c : Config} (h : c.WellFormed = true) :
    c.tIdle.res = .r1 ∧ c.tW1Low.res = .r1 ∧ c.tRdWait.res = .r1 ∧ c.tSlotTail.res = .r1 ∧ c.tW0Low.res = .r1
      ∧ c.tW0Rec.res = .r1 ∧ c.tPresWait.res = .r1 ∧ c.tRstRec.res = .r1 ∧ c.tRstLow.res = .r8 := by
  simp [Config.WellFormed, Config.resolutionsOk] at h
  simp_all

end Sys2Proof.Machine
end

