-- ==== Sys2Proof/Laws/PerInstr.lean ====
section
/-! SUPPORT. Facts about each instruction as syntax, one lemma per constructor. -/

namespace Sys2Proof.Laws.EncodingClean

/-- R84: the encoding of a well-formed instruction holds no bit outside those the instruction uses. -/
def Statement (i : Instr) : Prop :=
  i.WellFormed = true → (encode i).bits &&& ~~~usedBits i = 0

theorem init : Statement .init := by unfold Statement; decide
theorem wrbit : ∀ a, Statement (.wrbit a) := by unfold Statement; decide
theorem rdbit : Statement .rdbit := by unfold Statement; decide
theorem wrbyte : ∀ a, Statement (.wrbyte a) := by unfold Statement; decide
theorem rdbyte : Statement .rdbyte := by unfold Statement; decide
theorem reset : Statement .reset := by unfold Statement; decide
theorem delay1 (a : Byte) (b : HWord) : Statement (.delay1 a b) := by
  simp [Statement, encode, usedBits]
theorem delay8 (a : Byte) (b : HWord) : Statement (.delay8 a b) := by
  simp [Statement, encode, usedBits]
theorem delay128 (a : Byte) (b : HWord) : Statement (.delay128 a b) := by
  simp [Statement, encode, usedBits]
theorem spudelay : Statement .spudelay := by unfold Statement; decide
theorem search : Statement .search := by unfold Statement; decide
theorem srchclr : Statement .srchclr := by unfold Statement; decide
theorem isidle : Statement .isidle := by unfold Statement; decide
theorem crc8upd (a : Byte) (b : HWord) : Statement (.crc8upd a b) := by
  intro h
  have hb : b >>> 8 = 0 := eq_of_beq h
  have mask : ∀ j : Fin 24, (~~~(0x00FFFFFF : CmdWord)).getLsbD j = false := by decide
  apply BitVec.eq_of_getLsbD_eq
  intro k hk
  rw [BitVec.getLsbD_and, show (0 : BitVec 32).getLsbD k = false from BitVec.getLsbD_zero]
  by_cases h24 : k < 24
  · exact Bool.and_eq_false_iff.mpr (.inr (mask ⟨k, h24⟩))
  · obtain ⟨j, rfl⟩ : ∃ j, k = j + 24 := ⟨k - 24, by omega⟩
    have ha : a.getLsbD (j + 24 - 8) = false := BitVec.getLsbD_of_ge _ _ (by omega)
    have hbk : b.getLsbD (j + 24 - 16) = false := by
      have := congrArg (fun v => v.getLsbD j) hb
      simpa [show 8 + j = j + 24 - 16 by omega] using this
    refine Bool.and_eq_false_iff.mpr (.inl ?_)
    simp only [encode, Code.bits, cmdWord, BitVec.getLsbD_or, BitVec.getLsbD_shiftLeft, BitVec.getLsbD_setWidth, ha,
      hbk, Bool.and_false, Bool.or_false]
    simp
theorem rdreg : ∀ a, Statement (.rdreg a) := by unfold Statement; decide
theorem stIdle : Statement .stIdle := by unfold Statement; decide
theorem stStartBit : Statement .stStartBit := by unfold Statement; decide
theorem stReadWait : Statement .stReadWait := by unfold Statement; decide
theorem stSample : Statement .stSample := by unfold Statement; decide
theorem stRelease : Statement .stRelease := by unfold Statement; decide
theorem stResetPulse : Statement .stResetPulse := by unfold Statement; decide
theorem stResetRelease : Statement .stResetRelease := by unfold Statement; decide
theorem stResetSample : Statement .stResetSample := by unfold Statement; decide
theorem stResetRecover : Statement .stResetRecover := by unfold Statement; decide
theorem stDelay1 : Statement .stDelay1 := by unfold Statement; decide
theorem stDelay8 : Statement .stDelay8 := by unfold Statement; decide
theorem stDelay128 : Statement .stDelay128 := by unfold Statement; decide
theorem stDelaying : Statement .stDelaying := by unfold Statement; decide
theorem stDelayEnd : Statement .stDelayEnd := by unfold Statement; decide
theorem stStrongPullup : Statement .stStrongPullup := by unfold Statement; decide
theorem stStrongPullupDelay : Statement .stStrongPullupDelay := by unfold Statement; decide

end Sys2Proof.Laws.EncodingClean
end

