-- ==== Sys2Proof/Tests/Slice0.lean ====
section
/-! SUPPORT. The model's own tests: the checks of WellFormed, words written out from R82 and R86, vectors of
95_test_vectors.md (named in each comment), and witnesses that the hypotheses of the obligations can be met. -/

namespace Sys2Proof.Tests

open Sys2Proof.Machine

/-- The outcome is a next state of which `p` holds. -/
def after (o : Host.Outcome State Fault Refusal) (p : State → Bool) : Bool :=
  match o with
  | .next t => p t
  | .fault _ | .refused _ => false

/-- The outcome is refused for reason `r`. -/
def refusedBy (o : Host.Outcome State Fault Refusal) (r : Refusal) : Bool :=
  match o with
  | .refused q => q == r
  | .next _ | .fault _ => false

/-- The reset state with the engine in `b`, shift register `sr` and `n` slots left. -/
def slotAt (b : BusState) (sr n : Byte) : State :=
  { State.reset with state := b, shiftRegister := sr, bitsRemaining := n }

/-- The reset state with the front end at `p` of an accepted command, the engine in `b`. -/
def atPoint (p : Phase) (b : BusState) : State := { State.reset with cmdBusy := true, phase := p, state := b }

/-- The timer outputs. -/
def timer (t : State) : Resolution × Byte := (t.timerRes, t.timerCompare)

/-! ### WellFormed refuses an ill-formed term for each check -/

theorem test_illformed_instructions :
    [Instr.wrbit 0x02, .wrbit 0xFF, .crc8upd 0x50 0xAB9D].all (fun i => !i.WellFormed) = true
      ∧ [Instr.wrbit 0x01, .crc8upd 0x50 0x009D].all Instr.WellFormed = true := by decide

theorem test_illformed_counts :
    [{ Config.standard with tIdle := ⟨.r1, 0⟩ }, { Config.standard with tW1Low := ⟨.r1, 0⟩ },
     { Config.standard with tRdWait := ⟨.r1, 257⟩ }, { Config.standard with tSlotTail := ⟨.r1, 0⟩ },
     { Config.standard with tW0Low := ⟨.r1, 0⟩ }, { Config.standard with tW0Rec := ⟨.r1, 0⟩ },
     { Config.standard with tRstLow := ⟨.r8, 0⟩ }, { Config.standard with tPresWait := ⟨.r1, 0⟩ },
     { Config.standard with tRstRec := ⟨.r1, 0⟩ }, { Config.standard with spuCounts := 0 },
     { Config.standard with spuCounts := 257 }, { Config.standard with spuEvents := 0 },
     { Config.standard with spuEvents := 65537 }].all (fun c => !c.WellFormed) = true := by decide

theorem test_illformed_resolutions :
    [{ Config.standard with tIdle := ⟨.r8, 20⟩ }, { Config.standard with tW1Low := ⟨.r8, 6⟩ },
     { Config.standard with tRdWait := ⟨.r8, 9⟩ }, { Config.standard with tSlotTail := ⟨.r8, 55⟩ },
     { Config.standard with tW0Low := ⟨.r8, 60⟩ }, { Config.standard with tW0Rec := ⟨.r8, 10⟩ },
     { Config.standard with tRstLow := ⟨.r1, 60⟩ }, { Config.standard with tPresWait := ⟨.r8, 70⟩ },
     { Config.standard with tRstRec := ⟨.r128, 10⟩ }].all (fun c => !c.WellFormed) = true
      ∧ Config.standard.WellFormed = true := by decide

/-! ### Decoding: every constructor, by words written out from R80, R82 and R86 -/

theorem test_decode_commands :
    [0x00000001#32, 0x00000102, 0x00000003, 0x0000CC04, 0x00000005, 0x00000006, 0x03E80A07, 0x00037D08, 0x0028FA09,
     0x0000000A, 0x0000000B, 0x0000000C, 0x0000000D, 0x009D500E, 0x00001B0F].map (fun w => (decodeCmd w).toOption)
      = [Instr.init, .wrbit 1, .rdbit, .wrbyte 0xCC, .rdbyte, .reset, .delay1 10 1000, .delay8 125 3,
         .delay128 250 40, .spudelay, .search, .srchclr, .isidle, .crc8upd 0x50 0x9D, .rdreg 0x1B].map some := by
  decide

theorem test_decode_state_codes :
    [0x0#4, 0x1, 0x2, 0x3, 0x4, 0x5, 0x6, 0x7, 0x8, 0x9, 0xA, 0xB, 0xC, 0xD, 0xE, 0xF].map decodeState
      = [Instr.stIdle, .stStartBit, .stReadWait, .stSample, .stRelease, .stResetPulse, .stResetRelease,
         .stResetSample, .stResetRecover, .stDelay1, .stDelay8, .stDelay128, .stDelaying, .stDelayEnd,
         .stStrongPullup, .stStrongPullupDelay] := by decide

/-- One word a family bit by bit: `B = 3`, `A = 125`, `op = 0x08` (R80, R161); `A = 0x1B`, `op = 0x0F` (R151);
`op = 0x0B` (R184); the state code 0111 (R86). -/
theorem test_decode_bit_by_bit :
    decodeCmd 0b0000000000000011_01111101_00001000#32 = .ok (.delay8 125 3)
      ∧ decodeCmd 0b0000000000000000_00011011_00001111#32 = .ok (.rdreg 0x1B)
      ∧ decodeCmd 0b0000000000000000_00000000_00001011#32 = .ok .search
      ∧ decodeCmd 0b0000000000000000_10100101_00000100#32 = .ok (.wrbyte 0xA5)
      ∧ decodeState 0b0111#4 = .stResetSample := by decide

/-- V-D13. -/
theorem test_reserved_words :
    decodeCmd 0x00000000#32 = .error (.reservedOpcode 0x00) ∧ decodeCmd 0x00000010#32 = .error (.reservedOpcode 0x10)
      ∧ decodeCmd 0xFFFFFFFF#32 = .error (.reservedOpcode 0xFF) := by decide

/-- Every row of the opcode table runs as the first instruction after reset. -/
theorem test_every_row_runs_first :
    (List.range 16).all (fun c => after (step (State.reset.withFetchWord 8 c)) (fun _ => true)) = true
      ∧ (List.range 15).all (fun k => after (step (State.reset.withFetchWord 32 (k + 1))) (fun _ => true)) = true := by
  decide

/-- R234: a harness does not re-arm while an operation is in flight, which goes on. -/
theorem test_no_rearm_while_non_idle :
    after (step ((slotAt .release 0 1).withFetchWord 8 0x5)) (fun t => t.isIdle && t.lineDrive == .released) = true := by
  decide

/-- R103: with nothing presented, a step after reset is the `Idle` micro-step. -/
theorem test_reset_step_is_idle : after (step State.reset) (fun t => t.isIdle && timer t == (.r1, 20)) = true := by
  decide

/-! ### Micro-steps (V-E1 to V-E27) -/

/-- V-E1. -/
theorem test_idle : after (exec .stIdle State.reset) (fun t => t.isIdle && timer t == (.r1, 20)) = true := by decide

/-- V-E2. -/
theorem test_start_bit_one : after (exec .stStartBit (slotAt .startBit 0xA5 8))
    (fun t => t.state == .readWait && t.lineDrive == .low && timer t == (.r1, 6) && t.shiftRegister == 0xA5) = true := by
  decide

/-- V-E3. -/
theorem test_start_bit_zero : after (exec .stStartBit (slotAt .startBit 0xD2 7))
    (fun t => t.state == .release && t.lineDrive == .low && timer t == (.r1, 60) && t.bitsRemaining == 7) = true := by
  decide

/-- V-E4. -/
theorem test_read_wait : after (exec .stReadWait { slotAt .readWait 0 8 with lineDrive := .low })
    (fun t => t.state == .sample && t.lineDrive == .released && timer t == (.r1, 9)) = true := by decide

/-- V-E5. -/
theorem test_sample_one : after (exec .stSample { slotAt .sample 0xA5 8 with lineInput := [true] })
    (fun t => t.state == .startBit && t.shiftRegister == 0xD2 && t.bitsRemaining == 7 && timer t == (.r1, 55)) = true := by
  decide

/-- V-E7 and V-E8: the last slot, and the wrap-around. -/
theorem test_sample_last_and_wrap :
    after (exec .stSample { slotAt .sample 0x01 1 with lineInput := [true] })
        (fun t => t.isIdle && t.shiftRegister == 0x80 && t.bitsRemaining == 0) = true
      ∧ after (exec .stSample { slotAt .sample 0xFF 0 with lineInput := [true] })
        (fun t => t.state == .startBit && t.shiftRegister == 0xFF && t.bitsRemaining == 255) = true := by decide

/-- V-E9. -/
theorem test_release : after (exec .stRelease { slotAt .release 0xD2 7 with lineDrive := .low })
    (fun t => t.state == .startBit && t.shiftRegister == 0x69 && t.bitsRemaining == 6 && t.lineDrive == .released
      && timer t == (.r1, 10)) = true := by decide

/-- V-E10. -/
theorem test_release_last : after (exec .stRelease { slotAt .release 0x00 1 with lineDrive := .low })
    (fun t => t.isIdle && t.bitsRemaining == 0) = true := by decide

/-- V-E12. -/
theorem test_reset_pulse : after (exec .stResetPulse State.reset)
    (fun t => t.state == .resetRelease && t.lineDrive == .low && timer t == (.r8, 60)) = true := by decide

/-- V-E13. -/
theorem test_reset_release : after (exec .stResetRelease { State.reset with lineDrive := .low, timerRes := .r8 })
    (fun t => t.state == .resetSample && t.lineDrive == .released && timer t == (.r1, 70)) = true := by decide

/-- V-E14, V-E15. -/
theorem test_reset_sample :
    after (exec .stResetSample { slotAt .resetSample 0xA5 0 with lineInput := [false] })
        (fun t => t.state == .resetRecover && t.shiftRegister == 0x52 && timer t == (.r1, 10)) = true
      ∧ after (exec .stResetSample { slotAt .resetSample 0xA5 0 with lineInput := [true] })
        (fun t => t.shiftRegister == 0xD2) = true := by decide

/-- V-E16. -/
theorem test_reset_recover : after (exec .stResetRecover (slotAt .resetRecover 0 0))
    (fun t => t.isIdle && timer t == (.r1, 20)) = true := by decide

/-- V-E18: 256 counts are held as 0. -/
theorem test_delay1_full_count : after (exec .stDelay1 { State.reset with reloadTicks := 0, reloadPeriod := 1 })
    (fun t => t.state == .delaying && timer t == (.r1, 0)) = true := by decide

/-- V-E19. -/
theorem test_delay8 : after (exec .stDelay8 { State.reset with reloadTicks := 125, reloadPeriod := 3 })
    (fun t => t.state == .delaying && t.reloadPeriod == 3 && timer t == (.r8, 125)) = true := by decide

/-- V-E20. -/
theorem test_delay128 : after (exec .stDelay128 { State.reset with reloadTicks := 250, reloadPeriod := 40 })
    (fun t => t.state == .delaying && timer t == (.r128, 250)) = true := by decide

/-- V-E22. -/
theorem test_delaying_last : after (exec .stDelaying
      { State.reset with state := .delaying, reloadTicks := 125, reloadPeriod := 1, timerRes := .r8 })
    (fun t => t.isIdle && t.reloadPeriod == 0 && timer t == (.r1, 20)) = true := by decide

/-- V-E23: the wrap-around. -/
theorem test_delaying_wrap : after (exec .stDelaying
      { State.reset with state := .delaying, reloadTicks := 1, reloadPeriod := 0, timerRes := .r128 })
    (fun t => t.state == .delaying && t.reloadPeriod == 65535 && timer t == (.r128, 1)) = true := by decide

/-- V-E24. -/
theorem test_delay_end : after (exec .stDelayEnd { State.reset with state := .delayEnd, lineDrive := .low })
    (fun t => t.isIdle && t.lineDrive == .released && timer t == (.r1, 20)) = true := by decide

/-- V-E25. -/
theorem test_strong_pullup : after (exec .stStrongPullup State.reset)
    (fun t => t.state == .strongPullupDelay && t.reloadTicks == 234 && t.reloadPeriod == 25 && t.lineDrive == .high
      && timer t == (.r128, 234)) = true := by decide

/-- A strong pullup in progress with `n` events left. -/
def pullup (n : HWord) : State :=
  { State.reset with
    state := .strongPullupDelay, reloadTicks := 234, reloadPeriod := n, lineDrive := .high, timerRes := .r128 }

/-- V-E26, V-E27. -/
theorem test_strong_pullup_delay :
    after (exec .stStrongPullupDelay (pullup 25))
        (fun t => t.reloadPeriod == 24 && t.lineDrive == .high && timer t == (.r128, 234)) = true
      ∧ after (exec .stStrongPullupDelay (pullup 1))
        (fun t => t.isIdle && t.lineDrive == .released && t.reloadPeriod == 0 && timer t == (.r1, 20)) = true := by decide

/-! ### Commands -/

/-- V-D11. -/
theorem test_init : after (exec .init { slotAt .idle 0x5A 0 with
      reloadTicks := 125, lastDiscrepancy := 9, lastFamilyDiscrepancy := 4, lastZero := 9
      deviceId := #v[0x10, 0x50, 0xA9, 0x0A, 0x02, 0x08, 0x00, 0x37] })
    (fun t => t == State.reset) = true := by decide

/-- R219 (b). -/
theorem test_init_in_flight : refusedBy (exec .init (slotAt .startBit 0 1)) .initInFlight = true := by decide

/-- V-D2: only `A[0]` is used. -/
theorem test_wrbit : after (exec (.wrbit 0xFE) (atPoint .start .idle)) (fun t => t.shiftRegister == 0) = true
    ∧ after (exec (.wrbit 0xFF) (atPoint .start .idle))
      (fun t => t.shiftRegister == 1 && t.bitsRemaining == 1 && t.state == .startBit) = true := by decide

/-- V-D3. -/
theorem test_rdbit : after (exec .rdbit { atPoint .finish .idle with shiftRegister := 0x80 })
    (fun t => t.result == 1 && !t.cmdBusy) = true
    ∧ after (exec .rdbit (atPoint .start .idle)) (fun t => t.shiftRegister == 1 && t.bitsRemaining == 1) = true := by
  decide

/-- V-D4: the arm, and the return before the first event. -/
theorem test_wrbyte : after (exec (.wrbyte 0xA5) (atPoint .start .idle))
      (fun t => t.state == .startBit && t.shiftRegister == 0xA5 && t.bitsRemaining == 8) = true
    ∧ after (exec (.wrbyte 0xA5) { atPoint .finish .startBit with result := 7 })
      (fun t => t.result == 0 && !t.cmdBusy) = true := by decide

/-- V-D14: the gate. -/
theorem test_wrbyte_waits : after (exec (.wrbyte 0x44) { atPoint .start .readWait with shiftRegister := 0xCC })
    (fun t => t.shiftRegister == 0xCC && t.cmdBusy && t.phase == .start) = true := by decide

/-- V-D6. -/
theorem test_rdbyte : after (exec .rdbyte (atPoint .start .idle))
      (fun t => t.shiftRegister == 0xFF && t.bitsRemaining == 8) = true
    ∧ after (exec .rdbyte { atPoint .finish .idle with shiftRegister := 0x5A }) (fun t => t.result == 0x5A) = true := by
  decide

/-- V-D7, V-D8. -/
theorem test_reset_presence :
    after (exec .reset { atPoint .finish .idle with shiftRegister := 0x52 }) (fun t => t.result == 1) = true
      ∧ after (exec .reset { atPoint .finish .idle with shiftRegister := 0xD2 }) (fun t => t.result == 0) = true := by
  decide

/-- V-T1, V-T4, V-T5: the arms. -/
theorem test_delay_commands :
    after (exec (.delay8 125 3) (atPoint .start .idle))
        (fun t => t.state == .delay8 && t.reloadTicks == 125 && t.reloadPeriod == 3) = true
      ∧ after (exec (.delay1 10 1000) (atPoint .start .idle)) (fun t => t.state == .delay1) = true
      ∧ after (exec (.delay128 250 40) (atPoint .start .idle)) (fun t => t.state == .delay128) = true
      ∧ after (exec .spudelay (atPoint .start .idle)) (fun t => t.state == .strongPullup && t.reloadTicks == 0) = true := by
  decide

/-- R150. -/
theorem test_isidle : after (exec .isidle (atPoint .start .release)) (fun t => t.result == 0) = true
    ∧ after (exec .isidle (atPoint .start .idle)) (fun t => t.result == 1) = true := by decide

/-- V-C1, V-C3. -/
theorem test_crc8upd : after (exec (.crc8upd 0x50 0xAB9D) State.reset) (fun t => t.result == 0x37) = true
    ∧ crc8Update 0x00 0x80 = 0x8C ∧ crc8Update 0xFF 0x00 = 0x35 ∧ crc8Update 0x00 0x01 = 0x5E := by decide

set_option maxRecDepth 8000 in
/-- V-C4: identifiers A and A'. -/
theorem test_check_crc : checkCrc [0x10, 0x50, 0xA9, 0x0A, 0x02, 0x08, 0x00, 0x37] = 0x00
    ∧ checkCrc [0x10, 0x50, 0xA9, 0x0A, 0x02, 0x08, 0x00, 0x36] = 0x5E := by decide

/-- V-D12: after event 1 of a strong pullup. -/
theorem test_rdreg :
    [0x00#8, 0x04, 0x06, 0x07, 0x08, 0x20].map (fun a =>
      ({ pullup 25 with timerCompare := 234 } : State).window a) = [0x0F, 0x19, 0x02, 0xEA, 0x02, 0x00]
      ∧ after (exec (.rdreg 0x09) { State.reset with result := 0x5A }) (fun t => t.result == 0x5A) = true := by decide

/-- R173. -/
theorem test_srchclr : after (exec .srchclr { atPoint .start .idle with
      lastDiscrepancy := 9, lastFamilyDiscrepancy := 4, lastZero := 9, lastDeviceFlag := true })
    (fun t => t.lastDiscrepancy == 0 && t.lastFamilyDiscrepancy == 0 && t.lastZero == 0 && !t.lastDeviceFlag) = true := by
  decide

/-- A discrepancy at position `p` after a pass whose last discrepancy was 9. -/
def discrepancyAt (p : BitVec 7) : State :=
  { atPoint (.search .choose) .idle with pos := p, lastDiscrepancy := 9, deviceId := #v[0x08, 0, 0, 0, 0, 0, 0, 0] }

/-- R179, R180 (as in V-S4): before, at and past the last discrepancy. -/
theorem test_search_branches :
    after (exec .search (discrepancyAt 4)) (fun t => t.dir && t.lastZero == 0) = true
      ∧ after (exec .search (discrepancyAt 3)) (fun t => !t.dir && t.lastZero == 3 && t.lastFamilyDiscrepancy == 3) = true
      ∧ after (exec .search (discrepancyAt 9)) (fun t => t.dir && t.lastZero == 0) = true
      ∧ after (exec .search (discrepancyAt 10))
        (fun t => !t.dir && t.lastZero == 10 && t.lastFamilyDiscrepancy == 0) = true := by decide

/-- R65: positions 1, 9 and 64. -/
theorem test_set_id_bit :
    [1#7, 9, 64].map (fun p => (State.reset.setIdBit p true).deviceId.toList)
      = [[0x01, 0, 0, 0, 0, 0, 0, 0], [0, 0x01, 0, 0, 0, 0, 0, 0], [0, 0, 0, 0, 0, 0, 0, 0x80]] := by decide

/-! ### Witnesses: the hypotheses of the obligations can be met -/

/-- A free, initialised front end with the turn and one command word presented. -/
def presenting (w : CmdWord) : State := { State.reset with hostCommands := [w], schedule := [.frontEnd] }

/-- An accepted command word at phase `p`, the engine in `b`, the front end's turn. -/
def inCommand (w : CmdWord) (p : Phase) (b : BusState) : State :=
  { atPoint p b with cmdWord := w, schedule := [.frontEnd] }

theorem witness_UnusedOperandBitsAreIgnored : decodeCmd 0xAB9D500E#32 = .ok (.crc8upd 0x50 0xAB9D) := by decide

theorem witness_DecoderRejectsExactlyReservedOpcodes :
    (0x0F#32).toNat % 256 = 15 ∧ (0x10#32).toNat % 256 = 16 ∧ (0x01#32).toNat % 256 = 1 ∧ (0x100#32).toNat % 256 = 0 := by
  decide

theorem witness_StepRunsThePresentedCommand :
    (presenting 0x0000CC04).initialised = true ∧ (presenting 0x0000CC04).cmdBusy = false
      ∧ (presenting 0x0000CC04).hostCommands = 0x0000CC04 :: []
      ∧ (presenting 0x0000CC04).schedule.head? = some .frontEnd
      ∧ decodeCmd 0x0000CC04#32 = .ok (.wrbyte 0xCC) := by decide

/-- INIT presented to a block never reset, of which `cmdBusy` is unspecified. -/
theorem witness_StepRunsThePresentedCommand_first_init :
    let s : State := { presenting 0x00000001 with initialised := false, cmdBusy := true, state := .sample }
    s.initialised = false ∧ s.hostCommands = 0x00000001 :: [] ∧ s.schedule.head? = some .frontEnd
      ∧ decodeCmd 0x00000001#32 = .ok .init
      ∧ after (step s) (fun t => t.initialised && t.isIdle && !t.cmdBusy) = true := by decide

theorem witness_StepRunsThePresentedCommand_no_turn_listed :
    let s : State := { presenting 0x0000CC04 with schedule := [] }
    s.initialised = true ∧ s.cmdBusy = false ∧ s.hostCommands = 0x0000CC04 :: [] ∧ s.schedule = [] := by decide

theorem witness_StepContinuesTheAcceptedCommand :
    let s := inCommand 0x00000005 .finish .idle
    s.initialised = true ∧ s.cmdBusy = true ∧ s.schedule.head? = some .frontEnd ∧ decodeCmd s.cmdWord = .ok .rdbyte
      ∧ (gatedAt .rdbyte s.phase = false ∨ s.state = .idle) := by decide

theorem witness_StepContinuesTheAcceptedCommand_no_turn_listed :
    let s : State := { inCommand 0x00000005 .finish .idle with schedule := [] }
    s.initialised = true ∧ s.cmdBusy = true ∧ s.schedule = [] ∧ decodeCmd s.cmdWord = .ok .rdbyte
      ∧ s.state = .idle := by decide

theorem witness_StepContinuesTheAcceptedCommand_ungated :
    let s := inCommand 0x0000CC04 .finish .startBit
    decodeCmd s.cmdWord = .ok (.wrbyte 0xCC) ∧ gatedAt (.wrbyte 0xCC) s.phase = false := by decide

theorem witness_StepRunsTheMicroStepOfTheStateCode :
    ({ State.reset with schedule := [.engine] }).schedule = .engine :: [] := rfl

theorem witness_HeldFrontEndLeavesTheTurnToTheEngine_held :
    let s := inCommand 0x00000005 .finish .sample
    s.schedule.head? ≠ some .resetInput ∧ s.initialised = true ∧ s.cmdBusy = true
      ∧ decodeCmd s.cmdWord = .ok .rdbyte ∧ gatedAt .rdbyte s.phase = true ∧ s.state ≠ .idle := by decide

theorem witness_HeldFrontEndLeavesTheTurnToTheEngine_nothing_presented :
    State.reset.schedule.head? ≠ some .resetInput ∧ State.reset.cmdBusy = false ∧ State.reset.hostCommands = [] := by
  decide

theorem witness_HostContractViolationsAreRefused_reserved :
    (presenting 0x00000010).cmdBusy = false ∧ decodeCmd 0x00000010#32 = .error (.reservedOpcode 0x10) := by decide

theorem witness_HostContractViolationsAreRefused_before_init :
    let s := { presenting 0x00000006 with initialised := false }
    s.hostCommands = 0x00000006 :: [] ∧ s.schedule = .frontEnd :: [] ∧ s.initialised = false
      ∧ decodeCmd 0x00000006#32 = .ok .reset ∧ refusedBy (step s) .beforeInit = true := by decide

theorem witness_HostContractViolationsAreRefused_init_in_flight :
    let s := { presenting 0x00000001 with state := .delaying }
    s.initialised = true ∧ s.cmdBusy = false ∧ decodeCmd 0x00000001#32 = .ok .init ∧ s.state ≠ .idle
      ∧ refusedBy (step s) .initInFlight = true := by decide

theorem witness_StepStopsOnlyOnContractViolations :
    refusedBy (step (presenting 0x00000000)) (.reservedOpcode 0x00) = true := by decide

theorem witness_InitAndResetInputRestoreTheResetValues :
    State.reset.state = .idle ∧ ({ slotAt .sample 0 8 with initialised := false }).initialised = false
      ∧ ({ State.reset with schedule := [.resetInput] }).schedule = .resetInput :: [] := by decide

theorem witness_StartBitMicroStep :
    (slotAt .startBit 0x01 1).shiftRegister.toNat % 2 = 1 ∧ (slotAt .startBit 0xFE 1).shiftRegister.toNat % 2 = 0 := by
  decide

theorem witness_DelayingMicroStep_and_StrongPullupDelayMicroStep :
    (pullup 1).reloadPeriod.toNat = 1 ∧ (pullup 0).reloadPeriod.toNat ≠ 1 ∧ (pullup 2).reloadPeriod.toNat ≠ 1 := by decide

theorem witness_SampleLineFollowsTheDriver :
    State.reset.lineDrive = .released ∧ (pullup 1).lineDrive = .high
      ∧ ({ State.reset with lineDrive := .low }).lineDrive = .low := by decide

/-- For WRBYTE, WRBIT, RDBYTE, RDBIT, RESET and the delay commands: first step free to go, first step held, last
step. -/
theorem witness_gated_commands :
    ((atPoint .start .idle).phase = .start ∧ (atPoint .start .idle).state = .idle)
      ∧ ((atPoint .start .release).phase = .start ∧ (atPoint .start .release).state ≠ .idle)
      ∧ ((atPoint .finish .idle).phase = .finish ∧ (atPoint .finish .idle).state = .idle)
      ∧ ((atPoint .finish .sample).phase = .finish ∧ (atPoint .finish .sample).state ≠ .idle) := by decide

theorem witness_IsidleCommand : State.reset.state = .idle ∧ (slotAt .startBit 0 1).state ≠ .idle := by decide

/-- Each clause of the window's table at the ends of its range. -/
theorem witness_RdregReadsTheWindow :
    (0x09#8).toNat = 0x09 ∧ (0x0A ≤ (0x0A#8).toNat ∧ (0x0A#8).toNat ≤ 0x0F) ∧ (0x0A ≤ (0x0F#8).toNat ∧ (0x0F#8).toNat ≤ 0x0F)
      ∧ (0x10 ≤ (0x10#8).toNat ∧ (0x10#8).toNat ≤ 0x17) ∧ (0x10 ≤ (0x17#8).toNat ∧ (0x17#8).toNat ≤ 0x17)
      ∧ (0x1B#8).toNat = 0x1B ∧ 0x1C ≤ (0x1C#8).toNat ∧ 0x1C ≤ (0xFF#8).toNat := by decide

set_option maxRecDepth 8000 in
theorem witness_CrcDetectsEverySingleBitMutation :
    (7 : Nat) < 8 ∧ checkCrc (#v[0x10, 0x50, 0xA9, 0x0A, 0x02, 0x08, 0x00, 0x37] : Vector Byte 8).toList = 0x00 := by
  decide

theorem witness_SrchclrCommand :
    (atPoint .start .delaying).phase = .start ∧ (atPoint .finish .delaying).phase = .finish := by decide

theorem witness_SearchEntry :
    (atPoint .start .idle).phase = .start ∧ (atPoint .start .idle).lastDeviceFlag = false
      ∧ ({ atPoint .start .idle with lastDeviceFlag := true }).lastDeviceFlag = true := by decide

theorem witness_SearchStartsThePass :
    (atPoint (.search .busReset) .idle).state = .idle ∧ (atPoint (.search .busReset) .idle).phase = .search .busReset
      ∧ ({ atPoint (.search .presence) .idle with shiftRegister := 0x7F }).shiftRegister.toNat < 128
      ∧ 128 ≤ ({ atPoint (.search .presence) .idle with shiftRegister := 0x80 }).shiftRegister.toNat
      ∧ (atPoint (.search (.sendCmd 0)) .idle).phase = .search (.sendCmd 0)
      ∧ (atPoint (.search (.sendCmd 7)) .idle).phase = .search (.sendCmd 7)
      ∧ (atPoint (.search .beginPass) .startBit).phase = .search .beginPass := by decide

/-- In a run the eighth bit of SEARCH_CMD has just been armed when the pass begins. -/
theorem test_search_begins_ungated : after (exec .search (atPoint (.search .beginPass) .startBit))
    (fun t => t.pos == 1 && t.phase == .search .probe && t.state == .startBit) = true := by decide

theorem witness_SearchProbesThePosition :
    (atPoint (.search .probe) .idle).phase = .search .probe
      ∧ (atPoint (.search .readProbe) .idle).phase = .search .readProbe
      ∧ (atPoint (.search .readProbe) .idle).state = .idle := by decide

theorem witness_SearchChoosesByTheProbeCode :
    (discrepancyAt 8).phase = .search .choose ∧ (discrepancyAt 8).idBit = false ∧ (discrepancyAt 8).cmpBit = false
      ∧ (discrepancyAt 8).pos.toNat < (discrepancyAt 8).lastDiscrepancy.toNat
      ∧ (discrepancyAt 9).pos.toNat = (discrepancyAt 9).lastDiscrepancy.toNat
      ∧ (discrepancyAt 64).pos.toNat > (discrepancyAt 64).lastDiscrepancy.toNat
      ∧ ({ discrepancyAt 1 with idBit := true, cmpBit := true }).idBit = true
      ∧ ({ discrepancyAt 1 with idBit := true }).idBit ≠ ({ discrepancyAt 1 with idBit := true }).cmpBit := by decide

theorem witness_SearchRecordsAndWritesBack :
    let s (p : SearchPoint) (n : BitVec 7) : State := { atPoint (.search p) .idle with pos := n }
    (1 ≤ (s .record 1).pos.toNat ∧ (s .record 1).pos.toNat ≤ 64 ∧ (s .record 64).pos.toNat = 64)
      ∧ (s .writeBack 64).state = .idle ∧ (s .advance 63).pos.toNat < 64 ∧ (s .advance 64).pos.toNat = 64 := by decide

set_option maxRecDepth 8000 in
theorem witness_SearchEndsThePass :
    checkCrc (atPoint (.search .crcCheck) .startBit).deviceId.toList = 0x00
      ∧ checkCrc ({ atPoint (.search .crcCheck) .idle with deviceId := #v[0, 0, 0, 0, 0, 0, 0, 0x80] }).deviceId.toList ≠ 0x00
      ∧ (atPoint (.search .endPass) .idle).phase = .search .endPass
      ∧ (atPoint (.search .found) .idle).phase = .search .found
      ∧ (atPoint (.search .notFound) .idle).phase = .search .notFound := by decide

theorem witness_SearchIsHeldAtItsGates :
    (atPoint (.search .probe) .sample).phase = .search .probe ∧ SearchPoint.probe.gated = true
      ∧ (atPoint (.search .probe) .sample).state ≠ .idle := by decide

theorem witness_SetIdBitWritesOneBit :
    1 ≤ (1#7).toNat ∧ (1#7).toNat ≤ 64 ∧ 1 ≤ (64#7).toNat ∧ (64#7).toNat ≤ 64 := by decide

theorem witness_WhatTheEngineNeverDoes_sample :
    after (event { slotAt .sample 0 8 with lineInput := [true, false] })
      (fun t => t.sampleCount == 1 && t.lineInput == [false]) = true := by decide

theorem witness_WhatTheEngineNeverDoes : after (event (pullup 1)) (fun t => t.lineDrive == .released) = true
    ∧ after (event { State.reset with state := .strongPullup }) (fun t => t.lineDrive == .high) = true := by decide

theorem witness_FrontEndWritesEngineContextOnlyInIdle :
    decodeCmd 0x0000000D#32 = .ok .isidle ∧ Instr.isidle ≠ .init
      ∧ after (exec .isidle (atPoint .start .delaying)) (fun t => t.state == .delaying) = true
      ∧ decodeCmd 0x0000000A#32 = .ok .spudelay ∧ after (exec .spudelay (atPoint .start .idle))
        (fun t => t.state == .strongPullup) = true := by decide

theorem witness_ArmAndIdleEventCommute :
    decodeCmd 0x00000006#32 = .ok .reset ∧ (atPoint .start .idle).state = .idle
      ∧ after (exec .reset (atPoint .start .idle)) (fun t => t.state != .idle) = true := by decide

/-- The reset state has the invariant's parts that only read bits; the whole is the obligation
InvariantHoldsAfterReset. A slot in progress has the engine's part. -/
theorem witness_engine_invariant_in_a_slot : EngineInv (slotAt .sample 0xA5 8) where
  idleReleased := by decide
  highIff := by decide
  lowIff := by decide
  resolution := fun r h => by simpa [slotAt, State.reset, BusState.resolution] using h
  notDelayEnd := by decide
  slotsLeft := by decide

/-- The search record's part, outside a SEARCH. -/
theorem search_invariant_of_reset (s : State) (hd : s.lastDiscrepancy = 0) (hz : s.lastZero = 0)
    (hf : s.lastFamilyDiscrepancy = 0) (hp : ∀ p, s.phase ≠ .search p) : SearchInv s where
  discrepancy := by simp [hd]
  zero := by simp [hz]
  family := by simp [hf]
  lastDevice := fun _ => hd
  position := fun p h => absurd h (hp p)
  passOpen := fun p h => absurd h (hp p)

/-- A held read command: it meets the hypotheses of HeldCommandIsReleased, and its state those of
StepKeepsTheInvariant, EngineSamplesOnlyTheReleasedLine, EveryEventCountsDown and ArmedOperationRunsToIdle. -/
def heldRead : State :=
  { inCommand 0x00000005 .finish .sample with shiftRegister := 0xA5, bitsRemaining := 8, lineInput := [true] }

theorem witness_invariant : Inv heldRead where
  parameters := by decide
  engine := { witness_engine_invariant_in_a_slot with }
  search := search_invariant_of_reset heldRead rfl rfl rfl (fun _ => by simp [heldRead, inCommand, atPoint])
  found := by simp [heldRead, inCommand, atPoint]

theorem witness_StepKeepsTheInvariant : after (step heldRead) (fun t => t.state == .startBit) = true := by decide

theorem witness_HeldCommandIsReleased :
    heldRead.initialised = true ∧ heldRead.cmdBusy = true ∧ decodeCmd heldRead.cmdWord = .ok .rdbyte
      ∧ gatedAt .rdbyte heldRead.phase = true ∧ Turn.resetInput ∉ heldRead.schedule ∧ heldRead.state ≠ .idle := by decide

theorem witness_ArmedOperationRunsToIdle :
    ({ State.reset with state := .resetPulse }).state = .resetPulse ∧ (slotAt .startBit 0xA5 8).bitsRemaining.toNat ≤ 8
      ∧ ({ State.reset with state := .delay8 }).state = .delay8
      ∧ ({ State.reset with state := .strongPullup }).config = Config.standard
      ∧ (slotAt .startBit 0xA5 8).eventsToIdle = 20 := by decide

theorem witness_DelayTakesItsLength_and_StrongPullupHoldsTheLineHigh :
    [BusState.delay1, .delay8, .delay128].all (fun b =>
        let s := { State.reset with state := b }
        s.state == .delay1 || s.state == .delay8 || s.state == .delay128) = true
      ∧ ({ State.reset with state := .strongPullup }).state = .strongPullup := by decide

theorem witness_SlotLaw : (slotAt .startBit 0xA5 8).state = .startBit := rfl

theorem witness_ReadByteReturnsTheSamples :
    let s := { atPoint .start .idle with lineInput := [false, true, false, true, true, false, true, false] }
    s.phase = .start ∧ s.state = .idle ∧ s.lineInput = (List.range 8).map (0x5A#8).getLsbD ++ [] := by decide

theorem witness_WrittenByteIsBackAfterItsSlots :
    let s := { atPoint .start .idle with lineInput := [true, true, true, true] }
    s.phase = .start ∧ s.state = .idle
      ∧ s.lineInput = List.replicate ((List.range 8).filter (0xA5#8).getLsbD).length true ++ [] := by decide

/-- The samples of V-S2, in order. -/
def samplesVS2 : List Bool :=
  (List.range 149).map
    (0b01111010101011010101010101010110101101011010101101011010110101101011010101010101101010101010101010101101010101010101010101010101101101101011011010101#149).getMsbD

/-- V-S2: one device with identifier A; the samples the hypothesis describes are the 149 of the vector. -/
theorem witness_SearchFindsTheOnlyDevice_samples :
    let id : Vector Byte 8 := #v[0x10, 0x50, 0xA9, 0x0A, 0x02, 0x08, 0x00, 0x37]
    let bit : Nat → Bool := fun k => ((id[k / 8]?).getD 0).getLsbD (k % 8)
    samplesVS2 = false :: (List.replicate ((List.range 8).filter (Config.standard.searchCmd).getLsbD).length true
      ++ ((List.range 64).flatMap (fun k => [bit k, !bit k] ++ if bit k then [true] else []) ++ [])) := by
  decide

set_option maxRecDepth 8000 in
theorem witness_SearchFindsTheOnlyDevice :
    let s : State := { inCommand 0x0000000B .start .idle with lineInput := samplesVS2 }
    s.initialised = true ∧ s.cmdBusy = true ∧ s.cmdWord = 0x0000000B ∧ s.phase = .start ∧ s.state = .idle
      ∧ s.lastDeviceFlag = false ∧ s.config = Config.standard ∧ s.lineInput = samplesVS2
      ∧ checkCrc (#v[0x10, 0x50, 0xA9, 0x0A, 0x02, 0x08, 0x00, 0x37] : Vector Byte 8).toList = 0x00 :=
  ⟨rfl, rfl, rfl, rfl, rfl, rfl, rfl, rfl, by decide⟩

end Sys2Proof.Tests
end

/-! # The state of the block (10_state.md)

What a step does to the engine's registers and what it does to the search's, said separately: the front end
changes the engine's side only by arming it from `Idle`, the engine changes nothing of the search's side. The state
gate (R40) and the invariant (R41) follow. -/

namespace Sys2Proof.Machine

section EngineSide

/-! ### The registers of the engine's side, and what the front end does to them -/

/-- What the front end shares with the engine: `EngineContext`, the timer and line outputs, the environment's input,
and the parameters. -/
structure EngineSide where
  state : BusState
  shiftRegister : Byte
  bitsRemaining : Byte
  reloadTicks : Byte
  reloadPeriod : HWord
  timerRes : Resolution
  timerCompare : Byte
  lineDrive : LineDrive
  lineInput : List Bool
  sampleCount : Nat
  config : Config

/-- The engine's side of a state. -/
def State.engineSide (s : State) : EngineSide :=
  ⟨s.state, s.shiftRegister, s.bitsRemaining, s.reloadTicks, s.reloadPeriod, s.timerRes, s.timerCompare,
    s.lineDrive, s.lineInput, s.sampleCount, s.config⟩

/-- `Arms s u`: `u` is `s` after one of the arms of R142: 1 to 8 slots, a delay, a bus reset or a strong pullup. -/
inductive Arms (s : State) : State → Prop
  | slots (sr n : Byte) (hn : 1 ≤ n.toNat ∧ n.toNat ≤ 8) : Arms s (s.armSlots sr n)
  | delay (b : BusState) (hb : b ∈ [BusState.delay1, .delay8, .delay128]) (x : Byte) (y : HWord) :
      Arms s (s.armDelay b x y)
  | busReset : Arms s (s.toState .resetPulse)
  | pullup : Arms s (s.toState .strongPullup)

/-- What a front-end step does to the engine's side: nothing, or an arm in `Idle` (R40, R142). -/
inductive LeavesOrArms (s t : State) : Prop
  | leaves (e : t.engineSide = s.engineSide)
  | arms (u : State) (hs : s.state = .idle) (ha : Arms s u) (e : t.engineSide = u.engineSide)

/-- What a step of a command other than INIT can do (R144 to R151, R160 to R163, R170, R173, R184). -/
inductive FrontEndStep (s : State) : State → Prop
  | held : FrontEndStep s s
  | returns (v : Byte) : FrontEndStep s (s.ret v)
  | arms (u : State) (hs : s.state = .idle) (ha : Arms s u) : FrontEndStep s (u.atPhase .finish)
  | clears : FrontEndStep s (s.clearBookkeeping.atPhase .finish)
  | begins (hf : s.lastDeviceFlag = false) : FrontEndStep s (s.atSearch .busReset)
  | searches (p : SearchPoint) (t : State) (hp : s.phase = .search p) (h : searchStep p s = .next t) :
      FrontEndStep s t

variable {s t : State}

/-- A gated step reaches what holds of the unchanged state and, in `Idle`, of the step taken. -/
theorem whenIdle_elim {P : State → Prop} {f : State → State} (h : whenIdle s f = .next t)
    (held : P s) (taken : s.state = .idle → P (f s)) : P t := by
  obtain ⟨hs, rfl⟩ | ⟨-, rfl⟩ := whenIdle_cases h
  · exact taken hs
  · exact held

theorem armAndReturn_frontEndStep {arm : State → State} (h : armAndReturn s arm = .next t)
    (ha : Arms s (arm s)) : FrontEndStep s t := by
  obtain ⟨-, rfl⟩ | ⟨-, hs, rfl⟩ | ⟨-, -, rfl⟩ := armAndReturn_cases h
  · exact .returns _
  · exact .arms _ hs ha
  · exact .held

theorem armAndCollect_frontEndStep {arm : State → State} {value : State → Byte}
    (h : armAndCollect s arm value = .next t) (ha : Arms s (arm s)) : FrontEndStep s t := by
  obtain ⟨-, -, rfl⟩ | ⟨-, hs, rfl⟩ | ⟨-, rfl⟩ := armAndCollect_cases h
  · exact .returns _
  · exact .arms _ hs ha
  · exact .held

theorem execSrchclr_frontEndStep (h : execSrchclr s = .next t) : FrontEndStep s t := by
  unfold execSrchclr at h
  split at h
  · cases h; exact .returns _
  all_goals cases h; exact .clears

theorem execSearch_frontEndStep (h : execSearch s = .next t) : FrontEndStep s t := by
  unfold execSearch at h
  split at h
  · next p hp => exact .searches p t hp h
  all_goals
    split at h
    · cases h; exact .returns _
    · next hf => cases h; exact .begins (by simpa using hf)

/-- Every command but INIT takes only the steps of `FrontEndStep`; the cases stand in the order of the opcodes (R82). -/
theorem exec_frontEndStep {w : CmdWord} {i : Instr} (hd : decodeCmd w = .ok i) (hi : i ≠ .init)
    (h : exec i s = .next t) : FrontEndStep s t := by
  unfold decodeCmd at hd
  split at hd <;> cases hd
  · exact absurd rfl hi
  · exact armAndReturn_frontEndStep h (.slots _ _ (by decide))
  · exact armAndCollect_frontEndStep h (.slots _ _ (by decide))
  · exact armAndReturn_frontEndStep h (.slots _ _ (by decide))
  · exact armAndCollect_frontEndStep h (.slots _ _ (by decide))
  · exact armAndCollect_frontEndStep h .busReset
  · exact armAndReturn_frontEndStep h (.delay _ (by decide) _ _)
  · exact armAndReturn_frontEndStep h (.delay _ (by decide) _ _)
  · exact armAndReturn_frontEndStep h (.delay _ (by decide) _ _)
  · exact armAndReturn_frontEndStep h .pullup
  · exact execSearch_frontEndStep h
  · exact execSrchclr_frontEndStep h
  · cases h; exact .returns _
  · cases h; exact .returns _
  · cases h; exact .returns _

theorem testPresence_engineSide : s.testPresence.engineSide = s.engineSide := by
  unfold State.testPresence; split <;> rfl

theorem chooseDirection_engineSide : s.chooseDirection.engineSide = s.engineSide := by
  unfold State.chooseDirection; repeat' split
  all_goals rfl

theorem advancePos_engineSide : s.advancePos.engineSide = s.engineSide := by
  unfold State.advancePos; split <;> rfl

theorem checkIdentifier_engineSide : s.checkIdentifier.engineSide = s.engineSide := by
  unfold State.checkIdentifier; split <;> rfl

/-- A step of a running SEARCH arms slots or the bus reset, or computes on the front end's own registers. -/
theorem searchStep_leavesOrArms {p : SearchPoint} (h : searchStep p s = .next t) : LeavesOrArms s t := by
  have held : LeavesOrArms s s := .leaves rfl
  unfold searchStep at h
  cases p with
  | busReset => exact whenIdle_elim h held (fun hs => .arms _ hs .busReset rfl)
  | presence => exact whenIdle_elim h held (fun _ => .leaves testPresence_engineSide)
  | sendCmd i => exact whenIdle_elim h held (fun hs => .arms _ hs (.slots _ 1 (by decide)) rfl)
  | beginPass => cases h; exact .leaves rfl
  | probe => exact whenIdle_elim h held (fun hs => .arms _ hs (.slots _ 2 (by decide)) rfl)
  | readProbe => exact whenIdle_elim h held (fun _ => .leaves rfl)
  | choose => cases h; exact .leaves chooseDirection_engineSide
  | record => cases h; exact .leaves rfl
  | writeBack => exact whenIdle_elim h held (fun hs => .arms _ hs (.slots _ 1 (by decide)) rfl)
  | advance => cases h; exact .leaves advancePos_engineSide
  | endPass => cases h; exact .leaves rfl
  | crcCheck => cases h; exact .leaves checkIdentifier_engineSide
  | notFound => cases h; exact .leaves rfl
  | found => cases h; exact .leaves rfl

theorem FrontEndStep.leavesOrArms (h : FrontEndStep s t) : LeavesOrArms s t := by
  cases h with
  | held => exact .leaves rfl
  | returns v => exact .leaves rfl
  | arms u hs ha => exact .arms u hs ha rfl
  | clears => exact .leaves rfl
  | begins hf => exact .leaves rfl
  | searches p _ hp h => exact searchStep_leavesOrArms h

/-- An arm writes `state` with one of the six armed values. -/
theorem Arms.state_mem {u : State} (ha : Arms s u) :
    u.state ∈ [BusState.startBit, .resetPulse, .delay1, .delay8, .delay128, .strongPullup] := by
  cases ha with
  | slots sr n hn => simp
  | delay b hb x y =>
    simp only [List.mem_cons, List.not_mem_nil, or_false] at hb
    rcases hb with rfl | rfl | rfl <;> simp
  | busReset => simp
  | pullup => simp

/-- An arm leaves the outputs, the environment's input and the parameters alone. -/
theorem Arms.outputs {u : State} (ha : Arms s u) :
    u.timerRes = s.timerRes ∧ u.timerCompare = s.timerCompare ∧ u.lineDrive = s.lineDrive
      ∧ u.lineInput = s.lineInput ∧ u.sampleCount = s.sampleCount ∧ u.config = s.config := by
  cases ha <;> exact ⟨rfl, rfl, rfl, rfl, rfl, rfl⟩

end EngineSide

/-- Settles O47: the only writes of a command to the engine's side are the arms, and those fall in `Idle`. -/
theorem frontEndWritesEngineContextOnlyInIdle : Obligations.FrontEndWritesEngineContextOnlyInIdle := by
  intro w i s t hd hi h
  cases (exec_frontEndStep hd hi h).leavesOrArms with
  | leaves e =>
    simp only [State.engineSide, EngineSide.mk.injEq] at e
    obtain ⟨hst, hsr, hbits, hticks, hperiod, houtputs⟩ := e
    exact ⟨fun _ => ⟨hst, hsr, hbits, hticks, hperiod⟩, fun hne => absurd hst hne, houtputs⟩
  | arms u hs ha e =>
    simp only [State.engineSide, EngineSide.mk.injEq] at e
    obtain ⟨hst, -, -, -, -, hres, hcmp, hline, hin, hcount, hconfig⟩ := e
    obtain ⟨ures, ucmp, uline, uin, ucount, uconfig⟩ := ha.outputs
    exact ⟨fun hne => absurd hs hne, fun _ => ⟨hs, hst ▸ ha.state_mem⟩, hres.trans ures, hcmp.trans ucmp,
      hline.trans uline, hin.trans uin, hcount.trans ucount, hconfig.trans uconfig⟩

section EngineInvariant

/-! ### The engine's part of the invariant (R41 (a) to (e)) -/

/-- The line driver in each state (R41 (a) to (c)). -/
def drivenLine (b : BusState) : LineDrive :=
  if b = .strongPullupDelay then .high else if b.holdsLow then .low else .released

variable {s t : State}

/-- R41 (a) to (c) together say that `state` determines the line. -/
theorem EngineInv.lineDrive_eq (h : EngineInv s) : s.lineDrive = drivenLine s.state := by
  unfold drivenLine
  split
  · next hb => exact h.highIff.mpr hb
  · next hb =>
    split
    · next hl => exact h.lowIff.mpr hl
    · next hl =>
      cases hd : s.lineDrive with
      | released => rfl
      | low => exact absurd (h.lowIff.mp hd) hl
      | high => exact absurd (h.highIff.mp hd) hb

/-- The engine's part holds in state `b` where the line and the resolution are those of `b`. -/
theorem EngineInv.intro {b : BusState} (hb : t.state = b) (hline : t.lineDrive = drivenLine b)
    (hres : b.resolution = none ∨ b.resolution = some t.timerRes) (hend : b ≠ .delayEnd)
    (hslots : b.inSlot = true → 1 ≤ t.bitsRemaining.toNat ∧ t.bitsRemaining.toNat ≤ 8) : EngineInv t := by
  subst hb
  refine ⟨?_, ?_, ?_, ?_, hend, hslots⟩
  · intro h; rw [hline, h]; rfl
  · rw [hline]; cases t.state <;> decide
  · rw [hline]; cases t.state <;> decide
  · intro r hr
    rcases hres with h | h <;> rw [h] at hr <;> cases hr
    rfl

theorem EngineInv.congr (h : EngineInv s) (e : t.engineSide = s.engineSide) : EngineInv t :=
  h.of_fields (congrArg EngineSide.state e) (congrArg EngineSide.lineDrive e) (congrArg EngineSide.timerRes e)
    (congrArg EngineSide.bitsRemaining e)

/-- An arm in `Idle` finds the line released and the timer at R1, as the armed states ask. -/
theorem EngineInv.arms {u : State} (h : EngineInv s) (hs : s.state = .idle) (ha : Arms s u) : EngineInv u := by
  have hline : s.lineDrive = .released := h.idleReleased hs
  have hres : s.timerRes = .r1 := h.resolution .r1 (by rw [hs]; rfl)
  cases ha with
  | slots sr n hn => exact .intro rfl hline (.inr (congrArg some hres.symm)) nofun (fun _ => hn)
  | delay b hb x y =>
    simp only [List.mem_cons, List.not_mem_nil, or_false] at hb
    rcases hb with rfl | rfl | rfl <;> exact .intro rfl hline (.inr (congrArg some hres.symm)) nofun nofun
  | busReset => exact .intro rfl hline (.inr (congrArg some hres.symm)) nofun nofun
  | pullup => exact .intro rfl hline (.inr (congrArg some hres.symm)) nofun nofun

theorem EngineInv.leavesOrArms (h : EngineInv s) (ht : LeavesOrArms s t) : EngineInv t := by
  cases ht with
  | leaves e => exact h.congr e
  | arms u hs ha e => exact (h.arms hs ha).congr e

/-- The end of a slot with 1 to 8 slots left, line released and timer at R1: the next slot or `Idle`. -/
theorem EngineInv.endSlot (hline : s.lineDrive = .released) (hres : s.timerRes = .r1)
    (hn : 1 ≤ s.bitsRemaining.toNat ∧ s.bitsRemaining.toNat ≤ 8) : EngineInv s.endSlot := by
  have hsome : some Resolution.r1 = some s.endSlot.timerRes := congrArg some hres.symm
  cases hm : moreBits s.bitsRemaining with
  | true =>
    have hne : s.bitsRemaining ≠ 1 := (moreBits_iff _).mp hm
    have hleft : 1 ≤ (s.bitsRemaining - 1).toNat ∧ (s.bitsRemaining - 1).toNat ≤ 8 := by bv_omega
    exact .intro (b := .startBit) (by simp [hm]) hline (.inr hsome) nofun (fun _ => hleft)
  | false => exact .intro (b := .idle) (by simp [hm]) hline (.inr hsome) nofun nofun

/-- A counted event: the last one returns to `Idle`, so it has to leave the line released; the others keep `state`,
the line and the resolution (R115, R118). -/
theorem EngineInv.counted {done : State → State} (h : EngineInv s) (hidle : s.config.tIdle.res = .r1)
    (hdone : (done { s with reloadPeriod := s.reloadPeriod - 1 }).lineDrive = .released)
    (e : countEvent s done = .next t) : EngineInv t := by
  by_cases hp : s.reloadPeriod = 1
  · rw [countEvent_last hp] at e
    cases e
    exact .intro rfl hdone (.inr (congrArg some hidle.symm)) nofun nofun
  · rw [countEvent_more hp] at e
    cases e
    exact h.of_fields rfl rfl rfl rfl

/-- Every micro-step keeps the engine's part: R119's table, with the line and the resolution of each row. -/
theorem EngineInv.event (h : EngineInv s) (hc : s.config.WellFormed = true) (e : event s = .next t) :
    EngineInv t := by
  obtain ⟨hIdle, hW1Low, hRdWait, hSlotTail, hW0Low, hW0Rec, hPresWait, hRstRec, hRstLow⟩ :=
    resolutions_of_wellFormed hc
  have hline := h.lineDrive_eq
  have hslots := h.slotsLeft
  rw [event_eq] at e
  cases hs : s.state <;> rw [hs] at e hline hslots
  case idle =>
    cases e
    exact .intro hs hline (.inr (congrArg some hIdle.symm)) nofun nofun
  case startBit =>
    have e : execStStartBit s = .next t := e
    unfold execStStartBit at e
    split at e <;> cases e
    · exact .intro rfl rfl (.inr (congrArg some hW1Low.symm)) nofun hslots
    · exact .intro rfl rfl (.inr (congrArg some hW0Low.symm)) nofun hslots
  case readWait =>
    cases e
    exact .intro rfl rfl (.inr (congrArg some hRdWait.symm)) nofun hslots
  case sample =>
    cases e
    exact .endSlot ((State.afterSample_lineDrive s).trans hline) hSlotTail (by simpa using hslots rfl)
  case release =>
    cases e
    exact .endSlot rfl hW0Rec (hslots rfl)
  case resetPulse =>
    cases e
    exact .intro rfl rfl (.inr (congrArg some hRstLow.symm)) nofun nofun
  case resetRelease =>
    cases e
    exact .intro rfl rfl (.inr (congrArg some hPresWait.symm)) nofun nofun
  case resetSample =>
    cases e
    exact .intro rfl ((State.afterSample_lineDrive s).trans hline) (.inr (congrArg some hRstRec.symm)) nofun nofun
  case resetRecover =>
    cases e
    exact .intro rfl hline (.inr (congrArg some hIdle.symm)) nofun nofun
  case delay1 | delay8 | delay128 =>
    cases e
    exact .intro rfl hline (.inl rfl) nofun nofun
  case delaying => exact h.counted hIdle hline e
  case delayEnd => exact absurd hs h.notDelayEnd
  case strongPullup =>
    cases e
    exact .intro rfl rfl (.inr rfl) nofun nofun
  case strongPullupDelay => exact h.counted (done := fun s => s.setLine .released) hIdle rfl e

end EngineInvariant

section SearchInvariant

/-! ### The search's part of the invariant (R41 (f), R35, R174, R183) -/

/-- The registers the search's part of the invariant reads, without the control point. -/
structure SearchSide where
  deviceId : Vector Byte 8
  lastDiscrepancy : Byte
  lastFamilyDiscrepancy : Byte
  lastDeviceFlag : Bool
  lastZero : Byte
  pos : BitVec 7

/-- The search's side of a state. -/
def State.searchSide (s : State) : SearchSide :=
  ⟨s.deviceId, s.lastDiscrepancy, s.lastFamilyDiscrepancy, s.lastDeviceFlag, s.lastZero, s.pos⟩

/-- What `SearchInv` asks of the search record at every control point (R41 (f)). -/
structure RecordInv (s : State) : Prop where
  discrepancy : s.lastDiscrepancy.toNat ≤ 64
  zero : s.lastZero.toNat ≤ 64
  family : s.lastFamilyDiscrepancy.toNat ≤ 8
  lastDevice : s.lastDeviceFlag = true → s.lastDiscrepancy = 0

/-- The parts of `Inv` that the front end's SEARCH has to keep. -/
structure SearchSafe (s : State) : Prop where
  search : SearchInv s
  found : s.phase = .search .found → checkCrc s.deviceId.toList = 0x00

variable {s t : State}

theorem SearchInv.record (h : SearchInv s) : RecordInv s := ⟨h.discrepancy, h.zero, h.family, h.lastDevice⟩

theorem RecordInv.congr (h : RecordInv s) (e : t.searchSide = s.searchSide) : RecordInv t := by
  simp only [State.searchSide, SearchSide.mk.injEq] at e
  obtain ⟨-, hd, hf, hl, hz, -⟩ := e
  exact ⟨hd ▸ h.discrepancy, hz ▸ h.zero, hf ▸ h.family, by rw [hl, hd]; exact h.lastDevice⟩

theorem RecordInv.clearBookkeeping (s : State) : RecordInv s.clearBookkeeping :=
  ⟨Nat.zero_le _, Nat.zero_le _, Nat.zero_le _, nofun⟩

/-- Outside a SEARCH the record is all that is asked. -/
theorem RecordInv.outsideSearch (h : RecordInv s) (hp : ∀ p, s.phase ≠ .search p) : SearchSafe s where
  search := ⟨h.discrepancy, h.zero, h.family, h.lastDevice, fun p e => absurd e (hp p), fun p e => absurd e (hp p)⟩
  found := fun e => absurd e (hp _)

/-- What is asked where the front end goes on to point `p` of a SEARCH. -/
theorem RecordInv.atSearch {p : SearchPoint} (h : RecordInv s)
    (hpos : p.atPosition = true → 1 ≤ s.pos.toNat ∧ s.pos.toNat ≤ 64)
    (hopen : p.inPass = true → s.lastDeviceFlag = false)
    (hcrc : p = .found → checkCrc s.deviceId.toList = 0x00) : SearchSafe (s.atSearch p) where
  search :=
    { discrepancy := h.discrepancy
      zero := h.zero
      family := h.family
      lastDevice := h.lastDevice
      position := by rintro q ⟨⟩; exact hpos
      passOpen := by rintro q ⟨⟩; exact hopen }
  found := by rintro ⟨⟩; exact hcrc rfl

theorem SearchSafe.congr (h : SearchSafe s) (e : t.searchSide = s.searchSide) (hp : t.phase = s.phase) :
    SearchSafe t := by
  simp only [State.searchSide, SearchSide.mk.injEq] at e
  obtain ⟨hid, hd, hf, hl, hz, hpos⟩ := e
  exact ⟨h.search.of_fields hd hz hf hl hpos (.inl hp), by rw [hp, hid]; exact h.found⟩

/-! ### The steps of a SEARCH -/

theorem abortSearch_safe (s : State) : SearchSafe s.abortSearch :=
  (RecordInv.clearBookkeeping s).atSearch nofun nofun nofun

theorem testPresence_safe (h : RecordInv s) (hopen : s.lastDeviceFlag = false) : SearchSafe s.testPresence := by
  unfold State.testPresence
  split
  · exact h.atSearch nofun (fun _ => hopen) nofun
  · exact abortSearch_safe s

theorem sendCmdBit_safe (h : RecordInv s) (hopen : s.lastDeviceFlag = false) (i : Fin 8) :
    SearchSafe (s.sendCmdBit i) := by
  have hu : RecordInv (s.armSlots (boolByte (s.config.searchCmd.getLsbD i)) 1) := h.congr rfl
  unfold State.sendCmdBit
  split <;> exact hu.atSearch nofun (fun _ => hopen) nofun

theorem beginSearchPass_safe (h : RecordInv s) (hopen : s.lastDeviceFlag = false) :
    SearchSafe s.beginSearchPass := by
  have hu : RecordInv { s with lastZero := 0, pos := 1 } := ⟨h.discrepancy, Nat.zero_le _, h.family, h.lastDevice⟩
  have hfirst : 1 ≤ (1 : BitVec 7).toNat ∧ (1 : BitVec 7).toNat ≤ 64 := by decide
  exact hu.atSearch (fun _ => hfirst) (fun _ => hopen) nofun

/-- The position recorded at a discrepancy is 1 to 64, and 1 to 8 where it is the family's (R180). -/
theorem RecordInv.recordZero (h : RecordInv s) (hpos : s.pos.toNat ≤ 64) : RecordInv s.recordZero where
  discrepancy := h.discrepancy
  zero := by simpa [State.recordZero] using (Nat.mod_le _ _).trans hpos
  family := by
    by_cases h8 : s.pos.toNat ≤ 8
    · simpa [State.recordZero, h8] using (Nat.mod_le _ _).trans h8
    · simpa [State.recordZero, h8] using h.family
  lastDevice := h.lastDevice

theorem chooseDirection_safe (h : RecordInv s) (hpos : 1 ≤ s.pos.toNat ∧ s.pos.toNat ≤ 64)
    (hopen : s.lastDeviceFlag = false) : SearchSafe s.chooseDirection := by
  unfold State.chooseDirection
  split
  · exact abortSearch_safe s
  split
  · exact RecordInv.atSearch (h.congr rfl) (fun _ => hpos) (fun _ => hopen) nofun
  split
  · exact RecordInv.atSearch (h.congr rfl) (fun _ => hpos) (fun _ => hopen) nofun
  · exact RecordInv.atSearch ((h.recordZero hpos.2).congr rfl) (fun _ => hpos) (fun _ => hopen) nofun

/-- `pos` goes on to 64 and no further (R65). -/
theorem advancePos_safe (h : RecordInv s) (hpos : 1 ≤ s.pos.toNat ∧ s.pos.toNat ≤ 64)
    (hopen : s.lastDeviceFlag = false) : SearchSafe s.advancePos := by
  unfold State.advancePos
  split
  · exact h.atSearch nofun (fun _ => hopen) nofun
  · next hne =>
    have hnext : 1 ≤ (s.pos + 1).toNat ∧ (s.pos + 1).toNat ≤ 64 := by bv_omega
    have hu : RecordInv { s with pos := s.pos + 1 } := ⟨h.discrepancy, h.zero, h.family, h.lastDevice⟩
    exact hu.atSearch (fun _ => hnext) (fun _ => hopen) nofun

/-- R182 sets the last-device flag where `lastZero` is 0, and that is what `lastDiscrepancy` takes; the flag was clear
before, since the pass was open. -/
theorem finishPass_safe (h : RecordInv s) (hopen : s.lastDeviceFlag = false) : SearchSafe s.finishPass := by
  have hu : RecordInv { s with
      lastDiscrepancy := s.lastZero
      lastDeviceFlag := s.lastZero == 0 || s.lastDeviceFlag } :=
    ⟨h.zero, h.zero, h.family, by simp [hopen]⟩
  exact hu.atSearch nofun nofun nofun

/-- Only an identifier that passes the check leads to `found` (R183). -/
theorem checkIdentifier_safe (h : RecordInv s) : SearchSafe s.checkIdentifier := by
  unfold State.checkIdentifier
  split
  · next hcrc => exact h.atSearch nofun nofun (fun _ => hcrc)
  · exact abortSearch_safe s

theorem ret_safe (h : RecordInv s) (v : Byte) : SearchSafe (s.ret v) :=
  RecordInv.outsideSearch (h.congr rfl) nofun

/-- Every step of a running SEARCH keeps the search's part. -/
theorem searchStep_safe {p : SearchPoint} (h : SearchSafe s) (hp : s.phase = .search p)
    (e : searchStep p s = .next t) : SearchSafe t := by
  have hrec := h.search.record
  have hpos := h.search.position p hp
  have hopen := h.search.passOpen p hp
  unfold searchStep at e
  cases p with
  | busReset => exact whenIdle_elim e h (fun _ => RecordInv.atSearch (hrec.congr rfl) nofun hopen nofun)
  | presence => exact whenIdle_elim e h (fun _ => testPresence_safe hrec (hopen rfl))
  | sendCmd i => exact whenIdle_elim e h (fun _ => sendCmdBit_safe hrec (hopen rfl) i)
  | beginPass => cases e; exact beginSearchPass_safe hrec (hopen rfl)
  | probe => exact whenIdle_elim e h (fun _ => RecordInv.atSearch (hrec.congr rfl) hpos hopen nofun)
  | readProbe => exact whenIdle_elim e h (fun _ => RecordInv.atSearch (hrec.congr rfl) hpos hopen nofun)
  | choose => cases e; exact chooseDirection_safe hrec (hpos rfl) (hopen rfl)
  | record =>
    cases e
    have hu : RecordInv (s.setIdBit s.pos s.dir) := ⟨hrec.discrepancy, hrec.zero, hrec.family, hrec.lastDevice⟩
    exact hu.atSearch hpos hopen nofun
  | writeBack => exact whenIdle_elim e h (fun _ => RecordInv.atSearch (hrec.congr rfl) hpos hopen nofun)
  | advance => cases e; exact advancePos_safe hrec (hpos rfl) (hopen rfl)
  | endPass => cases e; exact finishPass_safe hrec (hopen rfl)
  | crcCheck => cases e; exact checkIdentifier_safe hrec
  | notFound => cases e; exact ret_safe hrec _
  | found => cases e; exact ret_safe hrec _

/-- An arm leaves the search's side alone. -/
theorem Arms.searchSide {u : State} (ha : Arms s u) : u.searchSide = s.searchSide := by
  cases ha <;> rfl

/-- Every step of a command but INIT keeps the search's part. -/
theorem SearchSafe.frontEndStep (h : SearchSafe s) (ht : FrontEndStep s t) : SearchSafe t := by
  have hrec := h.search.record
  cases ht with
  | held => exact h
  | returns v => exact ret_safe hrec v
  | arms u hs ha =>
    have hu : RecordInv (u.atPhase .finish) := hrec.congr ha.searchSide
    exact hu.outsideSearch nofun
  | clears => exact RecordInv.outsideSearch ((RecordInv.clearBookkeeping s).congr rfl) nofun
  | begins hf => exact hrec.atSearch nofun (fun _ => hf) nofun
  | searches p _ hp e => exact searchStep_safe h hp e

end SearchInvariant

section MachineInvariant

/-! ### Every step keeps the invariant -/

variable {s t : State}

theorem Inv.searchSafe (h : Inv s) : SearchSafe s := ⟨h.search, h.found⟩

/-- The reset state's values (R42), with admitted parameters, meet R41. -/
theorem Inv.resetBlock (hc : s.config.WellFormed = true) : Inv s.resetBlock :=
  have hrec : RecordInv s.resetBlock := ⟨Nat.zero_le _, Nat.zero_le _, Nat.zero_le _, nofun⟩
  have hsafe := hrec.outsideSearch nofun
  ⟨hc, .intro rfl rfl (.inr rfl) nofun nofun, hsafe.search, hsafe.found⟩

theorem countEvent_frame {done : State → State} (hside : ∀ u, (done u).searchSide = u.searchSide)
    (hphase : ∀ u, (done u).phase = u.phase) (hconfig : ∀ u, (done u).config = u.config)
    (e : countEvent s done = .next t) :
    t.searchSide = s.searchSide ∧ t.phase = s.phase ∧ t.config = s.config := by
  by_cases hp : s.reloadPeriod = 1
  · rw [countEvent_last hp] at e
    cases e
    exact ⟨hside _, hphase _, hconfig _⟩
  · rw [countEvent_more hp] at e
    cases e
    exact ⟨rfl, rfl, rfl⟩

theorem afterSample_searchSide (s : State) : s.afterSample.searchSide = s.searchSide := by
  unfold State.afterSample; split <;> rfl

/-- The engine writes no register of the search, nor the front end's control point (R124). -/
theorem event_frame (e : event s = .next t) :
    t.searchSide = s.searchSide ∧ t.phase = s.phase ∧ t.config = s.config := by
  rw [event_eq] at e
  cases hs : s.state <;> rw [hs] at e
  case startBit =>
    have e : execStStartBit s = .next t := e
    unfold execStStartBit at e
    split at e <;> cases e <;> exact ⟨rfl, rfl, rfl⟩
  case sample | resetSample =>
    cases e
    exact ⟨afterSample_searchSide s, State.afterSample_phase s, State.afterSample_config s⟩
  case delaying => exact countEvent_frame (done := id) (fun _ => rfl) (fun _ => rfl) (fun _ => rfl) e
  case strongPullupDelay =>
    exact countEvent_frame (done := fun s => s.setLine .released) (fun _ => rfl) (fun _ => rfl) (fun _ => rfl) e
  all_goals cases e; exact ⟨rfl, rfl, rfl⟩

theorem Inv.event (h : Inv s) (e : event s = .next t) : Inv t := by
  obtain ⟨hside, hphase, hconfig⟩ := event_frame e
  have hsafe := h.searchSafe.congr hside hphase
  exact ⟨hconfig ▸ h.parameters, h.engine.event h.parameters e, hsafe.search, hsafe.found⟩

theorem LeavesOrArms.config_eq (h : LeavesOrArms s t) : t.config = s.config := by
  cases h with
  | leaves e => exact congrArg EngineSide.config e
  | arms u hs ha e =>
    obtain ⟨-, -, -, -, -, hconfig⟩ := ha.outputs
    exact (congrArg EngineSide.config e).trans hconfig

/-- A step of any command keeps the invariant. -/
theorem Inv.exec_command {w : CmdWord} {i : Instr} (h : Inv s) (hd : decodeCmd w = .ok i)
    (e : exec i s = .next t) : Inv t := by
  by_cases hi : i = .init
  · subst hi
    have e : execInit s = .next t := e
    unfold execInit at e
    split at e <;> cases e
    exact .resetBlock h.parameters
  · have hstep := exec_frontEndStep hd hi e
    have hengine := hstep.leavesOrArms
    have hsafe := h.searchSafe.frontEndStep hstep
    exact ⟨hengine.config_eq ▸ h.parameters, h.engine.leavesOrArms hengine, hsafe.search, hsafe.found⟩

theorem Inv.tick (h : Inv s) : Inv s.tick :=
  have hsafe : SearchSafe s.tick := h.searchSafe.congr rfl rfl
  ⟨h.parameters, h.engine.congr rfl, hsafe.search, hsafe.found⟩

theorem Inv.accept (h : Inv s) (w : CmdWord) : Inv (s.accept w) :=
  have hsafe : SearchSafe (s.accept w) := RecordInv.outsideSearch (h.search.record.congr rfl) nofun
  ⟨h.parameters, h.engine.congr rfl, hsafe.search, hsafe.found⟩

theorem fetchCommand_ne_settled (s u : State) : fetchCommand s ≠ .settled u := by
  unfold fetchCommand present
  repeat' split
  all_goals nofun

/-- The front end's turn keeps the invariant: the running command's step, or the first step of the next one. -/
theorem Inv.fetchCommand_run {u : State} {i : Instr} (h : Inv s) (hf : fetchCommand s = .run i u)
    (e : exec i u = .next t) : Inv t := by
  obtain ⟨-, hd, rfl⟩ | ⟨-, w, ws, -, hd, -, rfl⟩ | ⟨-, -, rfl, rfl⟩ := Machine.fetchCommand_run hf
  · exact h.exec_command hd e
  · exact (h.accept w).exec_command hd e
  · exact h.event e

end MachineInvariant

/-- Settles O50: the reset input, the engine's event and the front end's turn each keep the invariant. -/
theorem stepKeepsTheInvariant : Obligations.StepKeepsTheInvariant := by
  intro s t h e
  obtain ⟨-, hstep⟩ | ⟨-, hstep⟩ | ⟨-, -, hstep⟩ := step_cases s <;> rw [hstep] at e
  · cases e
    exact .resetBlock h.parameters
  · exact h.tick.event e
  · cases hf : fetchCommand s.tick with
    | run i u => rw [hf] at e; exact h.tick.fetchCommand_run hf e
    | settled u => exact absurd hf (fetchCommand_ne_settled _ _)
    | stop r => rw [hf] at e; cases e

/-- Settles O49: the reset state is what `resetBlock` makes of it, with the default parameters. -/
theorem invariantHoldsAfterReset : Obligations.InvariantHoldsAfterReset := by
  have h : Inv State.reset.resetBlock := .resetBlock (by decide)
  exact h

/-- Settles O11: each register by its value in `State.reset`; the eight bytes of `deviceId` one by one. -/
theorem resetStateOfTheRegisters : Obligations.ResetStateOfTheRegisters := by
  have hid : ∀ i, i < 8 → State.reset.idByte i = 0x00 := by decide
  exact ⟨rfl, rfl, rfl, rfl, rfl, rfl, rfl, rfl, hid, rfl, rfl, rfl, rfl, rfl, rfl, rfl, rfl, rfl, rfl⟩

end Sys2Proof.Machine

/-! # The memory of the block (20_memory.md)

`deviceId` as 64 numbered bits (R13, R65), and the host register window (R62). -/

namespace Sys2Proof.Machine

section BitPositions

/-! ### The bits of `deviceId` -/

/-- Byte and bit index together name the position (R65). -/
theorem position_eq_iff {p q : BitVec 7} (hp : 1 ≤ p.toNat) (hq : 1 ≤ q.toNat) :
    q = p ↔ idByteIndex q = idByteIndex p ∧ idBitIndex q = idBitIndex p := by
  refine ⟨by rintro rfl; exact ⟨rfl, rfl⟩, fun ⟨hbyte, hbit⟩ => BitVec.eq_of_toNat_eq ?_⟩
  unfold idByteIndex at hbyte
  unfold idBitIndex at hbit
  omega

theorem idByteIndex_lt {p : BitVec 7} (h : p.toNat ≤ 64) : idByteIndex p < 8 := by
  unfold idByteIndex; omega

theorem idBitIndex_lt (p : BitVec 7) : idBitIndex p < 8 := Nat.mod_lt _ (by decide)

/-- `deviceId[i]` is there for each of the eight indices. -/
theorem State.getElem?_deviceId (s : State) {i : Nat} (hi : i < 8) : s.deviceId[i]? = some (s.idByte i) := by
  simp [State.idByte, hi]

/-- The mask of a position has one bit. -/
theorem getLsbD_idMask (p : BitVec 7) {k : Nat} (hk : k < 8) :
    (idMask p).getLsbD k = decide (k = idBitIndex p) := by
  rw [idMask, BitVec.natCast_eq_ofNat, BitVec.getLsbD_ofNat, Nat.one_shiftLeft, Nat.testBit_two_pow]
  simp [hk, eq_comm]

/-- In the byte that holds position `p`, the one bit is written and the other seven are left. -/
theorem getLsbD_withIdBit (old : Byte) (p : BitVec 7) (v : Bool) {k : Nat} (hk : k < 8) :
    (withIdBit old p v).getLsbD k = if k = idBitIndex p then v else old.getLsbD k := by
  have hmask := getLsbD_idMask p hk
  cases v with
  | true =>
    simp only [withIdBit, if_true, BitVec.getLsbD_or, hmask]
    by_cases h : k = idBitIndex p <;> simp [h]
  | false =>
    simp only [withIdBit, Bool.false_eq_true, if_false, BitVec.getLsbD_and, BitVec.getLsbD_not, hmask, hk]
    by_cases h : k = idBitIndex p <;> simp [h]

/-- `SetIdBit(p, v)` writes the one byte that holds position `p`. -/
theorem State.idByte_setIdBit (s : State) {p : BitVec 7} (hp : p.toNat ≤ 64) (v : Bool) (i : Nat) :
    (s.setIdBit p v).idByte i
      = if i = idByteIndex p then withIdBit (s.idByte (idByteIndex p)) p v else s.idByte i := by
  have hlt := idByteIndex_lt hp
  by_cases h : i = idByteIndex p
  · subst h
    simp [State.idByte, hlt]
  · simp [State.idByte, h, Ne.symm h]

end BitPositions

/-- Settles O44: within the written byte only the one bit changes, and the other bytes are left. -/
theorem setIdBitWritesOneBit : Obligations.SetIdBitWritesOneBit := by
  intro s p q v hp hp64 hq _
  unfold State.getIdBit
  rw [s.idByte_setIdBit hp64]
  by_cases hbyte : idByteIndex q = idByteIndex p
  · rw [if_pos hbyte, getLsbD_withIdBit _ _ _ (idBitIndex_lt q)]
    simp only [position_eq_iff hp hq, hbyte, true_and]
  · have hne : q ≠ p := fun h => hbyte (h ▸ rfl)
    rw [if_neg hbyte, if_neg hne]

section Window

/-! ### The host register window -/

variable {a : Byte}

/-- The window is read by the value of the address, so an address given by its value may be written as a literal. -/
theorem State.window_congr (s : State) (b : Byte) (h : a.toNat = b.toNat) : s.window a = s.window b :=
  congrArg s.window (BitVec.eq_of_toNat_eq h)

/-- Addresses 0x10 to 0x17 hold the bytes of `deviceId`. -/
theorem State.window_deviceId (s : State) (hlo : 0x10 ≤ a.toNat) (hhi : a.toNat ≤ 0x17) :
    s.window a = s.idByte (a.toNat - 0x10) := by
  unfold State.window
  interval_cases a.toNat <;> rfl

/-- Reserved addresses read 0x00. -/
theorem State.window_reserved (s : State) (h : 0x0A ≤ a.toNat ∧ a.toNat ≤ 0x0F ∨ 0x1C ≤ a.toNat) :
    s.window a = 0x00 := by
  unfold State.window
  split
  case h_23 => rfl
  all_goals omega

/-- The state code's byte decodes to the state again, and its upper four bits are 0. -/
theorem code_setWidth (b : BusState) :
    BusState.ofCode ((b.code.setWidth 8).setWidth 4) = b ∧ (b.code.setWidth 8 : Byte).toNat < 16 := by
  cases b <;> decide

theorem toNat_low_byte (x : HWord) : (x.extractLsb' 0 8).toNat = x.toNat % 256 := by
  simp [BitVec.extractLsb'_toNat]

theorem toNat_high_byte (x : HWord) : (x.extractLsb' 8 8).toNat = x.toNat / 256 := by
  rw [BitVec.extractLsb'_toNat, Nat.shiftRight_eq_div_pow]
  exact Nat.mod_eq_of_lt (by have := x.isLt; omega)

end Window

/-- Settles O32: the value is the window's byte, read off at each address. -/
theorem rdregReadsTheWindow : Obligations.RdregReadsTheWindow := by
  intro a s
  refine ⟨s.window a, rfl, fun h => ?state, s.window_congr 0x01, s.window_congr 0x02, s.window_congr 0x03,
    fun h => ?periodLow, fun h => ?periodHigh, fun h => ?resolution, s.window_congr 0x07, fun h => ?line,
    s.window_congr 0x09, fun hlo hhi => ?identifier, s.window_congr 0x18, s.window_congr 0x19, s.window_congr 0x1A,
    s.window_congr 0x1B, s.window_reserved⟩
  case state => rw [s.window_congr 0x00 h]; exact code_setWidth s.state
  case periodLow => rw [s.window_congr 0x04 h]; exact toNat_low_byte s.reloadPeriod
  case periodHigh => rw [s.window_congr 0x05 h]; exact toNat_high_byte s.reloadPeriod
  case resolution => rw [s.window_congr 0x06 h]; rfl
  case line => rw [s.window_congr 0x08 h]; rfl
  case identifier =>
    rw [s.window_deviceId hlo hhi]
    exact s.getElem?_deviceId (by omega)

end Sys2Proof.Machine

/-! # The encodings (30_encoding.md)

A command word is its three fields in a row (R80), so the laws of the decoder follow field by field: `cmdWord` puts
the fields together, `opField`, `aField` and `bField` take them apart, and a mask acts on each of them by itself. -/

namespace Sys2Proof.Machine

section CommandWord

/-! ### The fields of a command word (R80, R81, R91) -/

/-- The word of R91 holds `B`, `A` and `op` side by side, from the top down. -/
theorem cmdWord_eq_append (op a : Byte) (b : HWord) : cmdWord op a b = b ++ a ++ op := by
  refine BitVec.eq_of_getLsbD_eq fun k hk => ?_
  simp only [cmdWord, BitVec.getLsbD_or, BitVec.getLsbD_shiftLeft, BitVec.getLsbD_setWidth, BitVec.getLsbD_append,
    hk, decide_true, Bool.true_and]
  rcases lt_or_ge k 8 with h8 | h8
  · simp [h8, show k < 16 by omega]
  have hop : op.getLsbD k = false := BitVec.getLsbD_of_ge _ _ h8
  rcases lt_or_ge k 16 with h16 | h16
  · simp [hop, h16, show ¬ k < 8 by omega, show k - 8 < 8 by omega, show k - 8 < 32 by omega]
  · have ha : a.getLsbD (k - 8) = false := BitVec.getLsbD_of_ge _ _ (by omega)
    simp [hop, ha, show ¬ k < 8 by omega, show ¬ k < 16 by omega, show ¬ k - 8 < 8 by omega,
      show k - 16 < 32 by omega, show k - 8 - 8 = k - 16 by omega]

@[simp] theorem opField_cmdWord (op a : Byte) (b : HWord) : opField (cmdWord op a b) = op := by
  rw [opField, cmdWord_eq_append]
  exact BitVec.extractLsb'_append_eq_right

@[simp] theorem aField_cmdWord (op a : Byte) (b : HWord) : aField (cmdWord op a b) = a := by
  rw [aField, cmdWord_eq_append, BitVec.extractLsb'_append_eq_of_le (le_refl 8)]
  exact BitVec.extractLsb'_append_eq_right

@[simp] theorem bField_cmdWord (op a : Byte) (b : HWord) : bField (cmdWord op a b) = b := by
  rw [bField, cmdWord_eq_append, BitVec.append_assoc]
  exact BitVec.extractLsb'_append_eq_left

/-- Taken apart and put together again, a word is the same. -/
theorem cmdWord_fields (w : CmdWord) : cmdWord (opField w) (aField w) (bField w) = w := by
  have hBA : bField w ++ aField w = w.extractLsb' 8 24 := BitVec.extractLsb'_append_extractLsb'_eq_extractLsb' rfl
  have hBAop : w.extractLsb' 8 24 ++ opField w = w.extractLsb' 0 32 :=
    BitVec.extractLsb'_append_extractLsb'_eq_extractLsb' rfl
  rw [cmdWord_eq_append, hBA, hBAop, BitVec.extractLsb'_eq_self]

/-- A mask acts on each field by itself. -/
theorem and_cmdWord (w : CmdWord) (op a : Byte) (b : HWord) :
    w &&& cmdWord op a b = cmdWord (opField w &&& op) (aField w &&& a) (bField w &&& b) := by
  have hop : opField (w &&& cmdWord op a b) = opField w &&& opField (cmdWord op a b) := BitVec.extractLsb'_and
  have ha : aField (w &&& cmdWord op a b) = aField w &&& aField (cmdWord op a b) := BitVec.extractLsb'_and
  have hb : bField (w &&& cmdWord op a b) = bField w &&& bField (cmdWord op a b) := BitVec.extractLsb'_and
  rw [← cmdWord_fields (w &&& cmdWord op a b), hop, ha, hb, opField_cmdWord, aField_cmdWord, bField_cmdWord]

theorem toNat_opField (w : CmdWord) : (opField w).toNat = w.toNat % 256 := by simp [opField]

end CommandWord

/-- Settles O1: the decoder reads the fields off the word that the encoder made of them, and a state code selects its
own micro-step. -/
theorem decodeOfEncodeIsTheInstruction : Obligations.DecodeOfEncodeIsTheInstruction := by
  intro i
  cases i
  case wrbit | wrbyte | delay1 | delay8 | delay128 | crc8upd | rdreg => simp [encode, decode, decodeCmd]
  all_goals rfl

section UnusedBits

/-! ### Operand bits a command does not use (R84) -/

/-- The instruction with the operand bits it does not use cleared: what an assembler writes for it. -/
def clearUnused : Instr → Instr
  | .wrbit a => .wrbit (a &&& 0x01)
  | .crc8upd a b => .crc8upd a (b &&& 0x00FF)
  | i => i

theorem wellFormed_clearUnused (i : Instr) : (clearUnused i).WellFormed = true := by
  cases i
  case wrbit | crc8upd => simp [clearUnused, Instr.WellFormed, BitVec.ushiftRight_and_distrib]
  all_goals rfl

theorem lowBit_and_one (a : Byte) : lowBit (a &&& 0x01) = lowBit a := by simp [lowBit]

theorem lowByte_and_lowMask (b : HWord) : lowByte (b &&& 0x00FF) = lowByte b := by
  rw [lowByte, BitVec.setWidth_and]
  exact BitVec.and_allOnes

/-- The block reads only the operand bits the command uses. -/
theorem exec_clearUnused (i : Instr) (s : State) : exec (clearUnused i) s = exec i s := by
  cases i
  case wrbit a => simp only [clearUnused, exec, execWrbit, lowBit_and_one]
  case crc8upd a b => simp only [clearUnused, exec, execCrc8upd, lowByte_and_lowMask]
  all_goals rfl

section Masks

variable {w : CmdWord} {op : Byte} (ho : (opField w).toNat = op.toNat)
include ho

/-- A mask that keeps the whole of `op` leaves the opcode and masks the operands. -/
theorem cmdWord_masked {m : CmdWord} {a a' : Byte} {b b' : HWord} (hm : cmdWord 0xFF a b = m)
    (ha : aField w &&& a = a') (hb : bField w &&& b = b') : cmdWord op a' b' = w &&& m := by
  have hop : opField w &&& 0xFF = op := BitVec.and_allOnes.trans (BitVec.eq_of_toNat_eq ho)
  rw [← hm, and_cmdWord, hop, ha, hb]

theorem cmdWord_usedNone : cmdWord op 0 0 = w &&& 0x000000FF :=
  cmdWord_masked ho (by decide) BitVec.and_zero BitVec.and_zero

theorem cmdWord_usedLowBit : cmdWord op (aField w &&& 0x01) 0 = w &&& 0x000001FF :=
  cmdWord_masked ho (by decide) rfl BitVec.and_zero

theorem cmdWord_usedA : cmdWord op (aField w) 0 = w &&& 0x0000FFFF :=
  cmdWord_masked ho (by decide) BitVec.and_allOnes BitVec.and_zero

theorem cmdWord_usedAB : cmdWord op (aField w) (bField w) = w &&& 0xFFFFFFFF :=
  cmdWord_masked ho (by decide) BitVec.and_allOnes BitVec.and_allOnes

theorem cmdWord_usedALowByte : cmdWord op (aField w) (bField w &&& 0x00FF) = w &&& 0x00FFFFFF :=
  cmdWord_masked ho (by decide) BitVec.and_allOnes rfl

end Masks

/-- The used bits of a word are the assembler's word for the instruction the word decodes to; the cases stand in the
order of the opcodes (R82). -/
theorem encode_clearUnused {w : CmdWord} {i : Instr} (h : decodeCmd w = .ok i) :
    encode (clearUnused i) = .cmd (w &&& usedBits i) := by
  unfold decodeCmd at h
  split at h <;> cases h
  · exact congrArg Code.cmd (cmdWord_usedNone ‹_›)
  · exact congrArg Code.cmd (cmdWord_usedLowBit ‹_›)
  · exact congrArg Code.cmd (cmdWord_usedNone ‹_›)
  · exact congrArg Code.cmd (cmdWord_usedA ‹_›)
  · exact congrArg Code.cmd (cmdWord_usedNone ‹_›)
  · exact congrArg Code.cmd (cmdWord_usedNone ‹_›)
  · exact congrArg Code.cmd (cmdWord_usedAB ‹_›)
  · exact congrArg Code.cmd (cmdWord_usedAB ‹_›)
  · exact congrArg Code.cmd (cmdWord_usedAB ‹_›)
  · exact congrArg Code.cmd (cmdWord_usedNone ‹_›)
  · exact congrArg Code.cmd (cmdWord_usedNone ‹_›)
  · exact congrArg Code.cmd (cmdWord_usedNone ‹_›)
  · exact congrArg Code.cmd (cmdWord_usedNone ‹_›)
  · exact congrArg Code.cmd (cmdWord_usedALowByte ‹_›)
  · exact congrArg Code.cmd (cmdWord_usedA ‹_›)

end UnusedBits

/-- Settles O2: the masked word is the encoding of the instruction with its unused bits cleared, so the decoder gives
that instruction back (O1), and clearing those bits changes no meaning. -/
theorem unusedOperandBitsAreIgnored : Obligations.UnusedOperandBitsAreIgnored := by
  intro w i h
  have henc : encode (clearUnused i) = .cmd (w &&& usedBits i) := encode_clearUnused h
  have hdec : decode (encode (clearUnused i)) = .ok (clearUnused i) := decodeOfEncodeIsTheInstruction _
  rw [henc] at hdec
  exact ⟨clearUnused i, hdec, wellFormed_clearUnused i, henc, exec_clearUnused i⟩

section ReservedOpcodes

/-! ### Reserved opcodes (R83) -/

variable {w : CmdWord}

theorem decodeCmd_of_reserved (h : (opField w).toNat = 0 ∨ 16 ≤ (opField w).toNat) :
    decodeCmd w = .error (.reservedOpcode (opField w)) := by
  unfold decodeCmd
  split
  case h_16 => rfl
  all_goals omega

theorem decodeCmd_of_assigned (h : 1 ≤ (opField w).toNat ∧ (opField w).toNat ≤ 15) : ∃ i, decodeCmd w = .ok i := by
  obtain ⟨hlo, hhi⟩ := h
  unfold decodeCmd
  interval_cases (opField w).toNat <;> exact ⟨_, rfl⟩

end ReservedOpcodes

/-- Settles O3: `op` is the word's low byte, and the decoder looks at nothing else to choose between a command and a
rejection. -/
theorem decoderRejectsExactlyReservedOpcodes : Obligations.DecoderRejectsExactlyReservedOpcodes := by
  intro w
  have hnamed : opField w = BitVec.ofNat 8 w.toNat := BitVec.eq_of_toNat_eq (by simp [toNat_opField])
  rw [← toNat_opField, ← hnamed]
  exact ⟨decodeCmd_of_reserved, decodeCmd_of_assigned⟩

/-- Settles O4: each word is the one the encoder writes for its instruction (O1), each code that of its state. -/
theorem specWordsDecode : Obligations.SpecWordsDecode :=
  have decoded := decodeOfEncodeIsTheInstruction
  ⟨decoded (.wrbyte 0xCC), decoded (.delay8 125 3), decoded (.delay128 250 40), decoded (.crc8upd 0x50 0x9D),
    decoded (.rdreg 0x1B), decoded .search, decodeState_code .sample, decodeState_code .delayEnd,
    decodeState_code .strongPullupDelay⟩

end Sys2Proof.Machine

/-! # The bus engine (40_bus_engine.md)

Each micro-step is an equation (R103 to R118); `EngineStep` gathers them, so that what an event can do is said once.
The laws of the engine (R119, R120, R122, R124) read it off there. -/

namespace Sys2Proof.Machine

section Turns

variable {s : State}

/-- Where the schedule gives the engine the turn, the event is delivered, whatever the front end could do. -/
theorem fetch_of_engineTurn {turns : List Turn} (h : s.schedule = .engine :: turns) :
    fetch s = .run s.deliverEvent s.tick := by
  have hturn : s.turnToFrontEnd = false := by simp [State.turnToFrontEnd, h]
  simp [fetch, h, hturn]

end Turns

/-- Settles O7: an engine turn delivers the event, and delivery decodes the state code. -/
theorem stepRunsTheMicroStepOfTheStateCode : Obligations.StepRunsTheMicroStepOfTheStateCode := by
  intro s turns h
  have htick : s.tick = { s with schedule := turns, turnCount := s.turnCount + 1 } := by simp [State.tick, h]
  rw [step, fetch_of_engineTurn h, htick]
  rfl

/-- Settles O24: the three drivers one by one; only the released line has a level to take. -/
theorem sampleLineFollowsTheDriver : Obligations.SampleLineFollowsTheDriver := by
  intro s
  refine ⟨fun h => ?low, fun h => ?high, fun h => ?released⟩
  case low => simp [State.sampleBit, State.afterSample, h]
  case high => simp [State.sampleBit, State.afterSample, h]
  case released => exact ⟨(sampleBit_released s h).trans (lineLevel_eq s), afterSample_released s h⟩

section MicroSteps

/-! ### The micro-steps that test something (R104, R106, R107, R115, R118) -/

variable {s : State}

/-- An outgoing 1 has the short low period and a read window. -/
theorem execStStartBit_one (h : s.shiftRegister.toNat % 2 = 1) :
    execStStartBit s = .next (((s.setLine .low).setTimerTo s.config.tW1Low).toState .readWait) :=
  if_pos ((outBit_iff s).mpr h)

/-- An outgoing 0 has the long low period and no sample. -/
theorem execStStartBit_zero (h : s.shiftRegister.toNat % 2 ≠ 1) :
    execStStartBit s = .next (((s.setLine .low).setTimerTo s.config.tW0Low).toState .release) :=
  if_neg (mt (outBit_iff s).mp h)

/-- The end of a slot, by the count before the decrement: the last slot is the one counted 1. -/
theorem endSlot_eq (s : State) : s.endSlot = { s with
    bitsRemaining := s.bitsRemaining - 1
    state := if s.bitsRemaining = 1 then .idle else .startBit } := by
  have hnext : ∀ n : Byte,
      (if moreBits n then BusState.startBit else .idle) = if n = 1 then .idle else .startBit := by decide
  rw [State.endSlot, hnext]

/-- The decrement modulo 65536 (R121). -/
theorem sub_one_eq_ofNat (x : HWord) : x - 1 = BitVec.ofNat 16 (x.toNat + 65535) := by bv_omega

/-- The last counted event returns to `Idle`. -/
theorem countEvent_one (h : s.reloadPeriod = 1) (done : State → State) :
    countEvent s done = .next (((done { s with reloadPeriod := 0 }).setTimerTo s.config.tIdle).toState .idle) := by
  have hzero : s.reloadPeriod - 1 = 0 := by rw [h]; rfl
  rw [countEvent_last h, hzero]

/-- Every other counted event asks the timer for the same time again. -/
theorem countEvent_ne_one (h : s.reloadPeriod ≠ 1) (done : State → State) :
    countEvent s done = .next { s with reloadPeriod := s.reloadPeriod - 1, timerCompare := s.reloadTicks } := by
  rw [countEvent_more h, State.setTimer, ofNat_fullCount]

/-- The counted event in the numbers of R115: the value is read before the decrement, which is modulo 65536. -/
theorem countEvent_toNat (s : State) (done : State → State) :
    (s.reloadPeriod.toNat = 1 →
      countEvent s done = .next (((done { s with reloadPeriod := 0 }).setTimerTo s.config.tIdle).toState .idle))
    ∧ (s.reloadPeriod.toNat ≠ 1 → countEvent s done = .next { s with
      reloadPeriod := BitVec.ofNat 16 (s.reloadPeriod.toNat + 65535), timerCompare := s.reloadTicks }) := by
  rw [← sub_one_eq_ofNat]
  exact ⟨fun h => countEvent_one (BitVec.toNat_inj.mp h) done,
    fun h => countEvent_ne_one (mt BitVec.toNat_inj.mpr h) done⟩

end MicroSteps

/-- Settles O13: neither micro-step tests anything, so each is its own equation. -/
theorem idleAndReadWaitMicroSteps : Obligations.IdleAndReadWaitMicroSteps :=
  ⟨fun _ => ⟨rfl, rfl⟩, rfl, rfl⟩

/-- Settles O14: an outgoing bit that is not 1 is 0. -/
theorem startBitMicroStep : Obligations.StartBitMicroStep := by
  intro s
  exact ⟨execStStartBit_one, fun h => execStStartBit_zero (by omega)⟩

/-- Settles O15: the sample is shifted in, and taking it changes neither the old bits nor the count. -/
theorem sampleMicroStep : Obligations.SampleMicroStep := by
  intro s
  refine ⟨shiftIn s.sampleBit s.shiftRegister, ?_, shiftIn_toNat _ _⟩
  rw [exec, execStSample, endSlot_eq]
  simp [State.shiftInBit, State.setTimerTo, State.setTimer]

/-- Settles O16: what is shifted in is the 0 that was sent. -/
theorem releaseMicroStep : Obligations.ReleaseMicroStep := by
  intro s
  refine ⟨shiftIn false s.shiftRegister, ?_, by simp [shiftIn_toNat]⟩
  exact congrArg Host.Outcome.next (endSlot_eq _)

/-- Settles O17: none of the three tests anything, so each is its own equation. -/
theorem busResetMicroSteps : Obligations.BusResetMicroSteps :=
  fun _ => ⟨rfl, rfl, rfl⟩

/-- Settles O18: the shift is the one of `Sample` (decision D10). -/
theorem resetSampleMicroStep : Obligations.ResetSampleMicroStep := by
  intro s
  refine ⟨shiftIn s.sampleBit s.afterSample.shiftRegister, rfl, ?_⟩
  rw [State.afterSample_shiftRegister]
  exact shiftIn_toNat _ _

/-- Settles O19: one set-up, at three resolutions. -/
theorem delaySetUpMicroSteps : Obligations.DelaySetUpMicroSteps :=
  fun s => ⟨setUpDelay_eq s .r1, setUpDelay_eq s .r8, setUpDelay_eq s .r128⟩

/-- Settles O20: a counted event, whose last one does nothing besides the return to `Idle`. -/
theorem delayingMicroStep : Obligations.DelayingMicroStep :=
  fun s => countEvent_toNat s id

/-- Settles O23: a counted event, whose last one also releases the line. -/
theorem strongPullupDelayMicroStep : Obligations.StrongPullupDelayMicroStep :=
  fun s => countEvent_toNat s (fun s => s.setLine .released)

/-- Settles O21: the micro-step tests nothing, so it is its own equation. -/
theorem delayEndMicroStep : Obligations.DelayEndMicroStep := fun _ => rfl

/-- Settles O22: the micro-step tests nothing, so it is its own equation. -/
theorem strongPullupMicroStep : Obligations.StrongPullupMicroStep := fun _ => rfl

section EngineStep

/-! ### What an event can do -/

/-- The engine's events, one case for each branch of R103 to R118. -/
inductive EngineStep (s : State) : State → Prop
  | idle (hs : s.state = .idle) : EngineStep s (s.setTimerTo s.config.tIdle)
  | startOne (hs : s.state = .startBit) (hbit : s.shiftRegister.toNat % 2 = 1) :
      EngineStep s (((s.setLine .low).setTimerTo s.config.tW1Low).toState .readWait)
  | startZero (hs : s.state = .startBit) (hbit : s.shiftRegister.toNat % 2 ≠ 1) :
      EngineStep s (((s.setLine .low).setTimerTo s.config.tW0Low).toState .release)
  | readWait (hs : s.state = .readWait) :
      EngineStep s (((s.setLine .released).setTimerTo s.config.tRdWait).toState .sample)
  | sample (hs : s.state = .sample) :
      EngineStep s ((s.afterSample.shiftInBit s.sampleBit).setTimerTo s.config.tSlotTail).endSlot
  | release (hs : s.state = .release) :
      EngineStep s (((s.setLine .released).shiftInBit false).setTimerTo s.config.tW0Rec).endSlot
  | resetPulse (hs : s.state = .resetPulse) :
      EngineStep s (((s.setLine .low).setTimerTo s.config.tRstLow).toState .resetRelease)
  | resetRelease (hs : s.state = .resetRelease) :
      EngineStep s (((s.setLine .released).setTimerTo s.config.tPresWait).toState .resetSample)
  | resetSample (hs : s.state = .resetSample) :
      EngineStep s (((s.afterSample.shiftInBit s.sampleBit).setTimerTo s.config.tRstRec).toState .resetRecover)
  | resetRecover (hs : s.state = .resetRecover) : EngineStep s ((s.setTimerTo s.config.tIdle).toState .idle)
  | delaySetUp (r : Resolution) (hs : s.state = .delay1 ∨ s.state = .delay8 ∨ s.state = .delay128) :
      EngineStep s { s with state := .delaying, timerRes := r, timerCompare := s.reloadTicks }
  | delayEnd (hs : s.state = .delayEnd) :
      EngineStep s (((s.setLine .released).setTimerTo s.config.tIdle).toState .idle)
  | strongPullup (hs : s.state = .strongPullup) :
      EngineStep s { s with
        lineDrive := .high, state := .strongPullupDelay
        reloadTicks := BitVec.ofNat 8 s.config.spuCounts, reloadPeriod := BitVec.ofNat 16 s.config.spuEvents
        timerRes := .r128, timerCompare := BitVec.ofNat 8 s.config.spuCounts }
  | counts (hs : s.state = .delaying ∨ s.state = .strongPullupDelay) (hp : s.reloadPeriod ≠ 1) :
      EngineStep s { s with reloadPeriod := s.reloadPeriod - 1, timerCompare := s.reloadTicks }
  | delayOver (hs : s.state = .delaying) (hp : s.reloadPeriod = 1) :
      EngineStep s (({ s with reloadPeriod := 0 }.setTimerTo s.config.tIdle).toState .idle)
  | pullupOver (hs : s.state = .strongPullupDelay) (hp : s.reloadPeriod = 1) :
      EngineStep s ((({ s with reloadPeriod := 0 }.setLine .released).setTimerTo s.config.tIdle).toState .idle)

variable {s t : State}

/-- Every event answers, with one of the engine's steps (R100: the step function is total). -/
theorem event_engineStep (s : State) : ∃ t, event s = .next t ∧ EngineStep s t := by
  rw [event_eq]
  cases hs : s.state with
  | idle => exact ⟨_, rfl, .idle hs⟩
  | startBit =>
    by_cases hbit : s.shiftRegister.toNat % 2 = 1
    · exact ⟨_, execStStartBit_one hbit, .startOne hs hbit⟩
    · exact ⟨_, execStStartBit_zero hbit, .startZero hs hbit⟩
  | readWait => exact ⟨_, rfl, .readWait hs⟩
  | sample => exact ⟨_, rfl, .sample hs⟩
  | release => exact ⟨_, rfl, .release hs⟩
  | resetPulse => exact ⟨_, rfl, .resetPulse hs⟩
  | resetRelease => exact ⟨_, rfl, .resetRelease hs⟩
  | resetSample => exact ⟨_, rfl, .resetSample hs⟩
  | resetRecover => exact ⟨_, rfl, .resetRecover hs⟩
  | delay1 => exact ⟨_, setUpDelay_eq s .r1, .delaySetUp .r1 (.inl hs)⟩
  | delay8 => exact ⟨_, setUpDelay_eq s .r8, .delaySetUp .r8 (.inr (.inl hs))⟩
  | delay128 => exact ⟨_, setUpDelay_eq s .r128, .delaySetUp .r128 (.inr (.inr hs))⟩
  | delaying =>
    by_cases hp : s.reloadPeriod = 1
    · exact ⟨_, countEvent_one hp id, .delayOver hs hp⟩
    · exact ⟨_, countEvent_ne_one hp id, .counts (.inl hs) hp⟩
  | delayEnd => exact ⟨_, rfl, .delayEnd hs⟩
  | strongPullup => exact ⟨_, rfl, .strongPullup hs⟩
  | strongPullupDelay =>
    by_cases hp : s.reloadPeriod = 1
    · exact ⟨_, countEvent_one hp (fun s => s.setLine .released), .pullupOver hs hp⟩
    · exact ⟨_, countEvent_ne_one hp (fun s => s.setLine .released), .counts (.inr hs) hp⟩

/-- An event that answers has taken one of the engine's steps. -/
theorem EngineStep.of_event (e : event s = .next t) : EngineStep s t := by
  obtain ⟨u, hu, hstep⟩ := event_engineStep s
  cases hu.symm.trans e
  exact hstep

/-- R119's row for the end of a slot. -/
theorem endSlot_state_eq (s : State) :
    s.endSlot.state = if s.bitsRemaining.toNat = 1 then .idle else .startBit := by
  rw [endSlot_eq]
  exact if_congr BitVec.toNat_inj.symm rfl rfl

end EngineStep

/-- Settles O45: R119's rows are the cases of `EngineStep`. -/
theorem engineTransitionRelation : Obligations.EngineTransitionRelation := by
  intro s
  obtain ⟨t, e, hstep⟩ := event_engineStep s
  refine ⟨t, e, ?_⟩
  cases hstep with
  | startOne hs hbit | startZero hs hbit => simp [hs, hbit]
  | sample hs => rw [hs, endSlot_state_eq]; simp
  | release hs => rw [hs]; exact endSlot_state_eq _
  | delaySetUp r hs => rcases hs with hs | hs | hs <;> rw [hs]
  | counts hs hp =>
    have hp : s.reloadPeriod.toNat ≠ 1 := fun e => hp (BitVec.toNat_inj.mp e)
    rcases hs with hs | hs <;> simp [hs, hp]
  | delayOver hs hp | pullupOver hs hp => simp [hs, hp]
  | _ hs => simp [hs]

section EngineFrame

/-! ### What the engine leaves alone (R124) -/

/-- The registers no rule of the engine writes: the search's, the front end's, and the model's own (log entries 1 and
3 to 6). -/
structure OutsideEngine where
  deviceId : Vector Byte 8
  lastDiscrepancy : Byte
  lastFamilyDiscrepancy : Byte
  lastDeviceFlag : Bool
  lastZero : Byte
  pos : BitVec 7
  idBit : Bool
  cmpBit : Bool
  dir : Bool
  result : Byte
  cmdBusy : Bool
  cmdWord : CmdWord
  phase : Phase
  initialised : Bool
  hostCommands : List CmdWord
  config : Config
  schedule : List Turn
  turnCount : Nat

/-- What stands outside the engine in a state. -/
def State.outsideEngine (s : State) : OutsideEngine :=
  ⟨s.deviceId, s.lastDiscrepancy, s.lastFamilyDiscrepancy, s.lastDeviceFlag, s.lastZero, s.pos, s.idBit, s.cmpBit,
    s.dir, s.result, s.cmdBusy, s.cmdWord, s.phase, s.initialised, s.hostCommands, s.config, s.schedule, s.turnCount⟩

variable {s t : State}

theorem afterSample_outsideEngine (s : State) : s.afterSample.outsideEngine = s.outsideEngine := by
  unfold State.afterSample; split <;> rfl

/-- The frame of every event. -/
theorem EngineStep.outsideEngine_eq (h : EngineStep s t) : t.outsideEngine = s.outsideEngine := by
  cases h with
  | sample hs | resetSample hs => exact afterSample_outsideEngine s
  | _ => rfl

/-- Only `StrongPullup` begins to drive HIGH. -/
theorem EngineStep.lineDrive_high (h : EngineStep s t) (hhigh : t.lineDrive = .high) :
    s.state = .strongPullup ∨ s.lineDrive = .high := by
  cases h with
  | strongPullup hs => exact .inl hs
  | idle | resetRecover | delaySetUp | counts | delayOver => exact .inr hhigh
  | sample | resetSample => exact .inr ((State.afterSample_lineDrive s).symm.trans hhigh)
  | startOne | startZero | readWait | release | resetPulse | resetRelease | delayEnd | pullupOver => cases hhigh

theorem EngineStep.bitsRemaining_ne (h : EngineStep s t) (hne : t.bitsRemaining ≠ s.bitsRemaining) :
    s.state = .sample ∨ s.state = .release := by
  cases h with
  | sample hs => exact .inl hs
  | release hs => exact .inr hs
  | resetSample => exact absurd (State.afterSample_bitsRemaining s) hne
  | _ => exact absurd rfl hne

theorem EngineStep.shiftRegister_ne (h : EngineStep s t) (hne : t.shiftRegister ≠ s.shiftRegister) :
    s.state = .sample ∨ s.state = .release ∨ s.state = .resetSample := by
  cases h with
  | sample hs => exact .inl hs
  | release hs => exact .inr (.inl hs)
  | resetSample hs => exact .inr (.inr hs)
  | _ => exact absurd rfl hne

theorem EngineStep.reloadTicks_ne (h : EngineStep s t) (hne : t.reloadTicks ≠ s.reloadTicks) :
    s.state = .strongPullup := by
  cases h with
  | strongPullup hs => exact hs
  | sample | resetSample => exact absurd (State.afterSample_reloadTicks s) hne
  | _ => exact absurd rfl hne

theorem EngineStep.reloadPeriod_ne (h : EngineStep s t) (hne : t.reloadPeriod ≠ s.reloadPeriod) :
    s.state = .strongPullup ∨ s.state = .delaying ∨ s.state = .strongPullupDelay := by
  cases h with
  | strongPullup hs => exact .inl hs
  | counts hs => exact .inr hs
  | delayOver hs => exact .inr (.inl hs)
  | pullupOver hs => exact .inr (.inr hs)
  | sample | resetSample => exact absurd (State.afterSample_reloadPeriod s) hne
  | _ => exact absurd rfl hne

/-- The environment's input is left, or it is a sampling event and takes what a sample takes. -/
theorem EngineStep.input_cases (h : EngineStep s t) :
    (t.sampleCount = s.sampleCount ∧ t.lineInput = s.lineInput)
      ∨ (s.state = .sample ∨ s.state = .resetSample)
        ∧ t.sampleCount = s.sampleCount + 1 ∧ t.lineInput = s.lineInput.tail := by
  cases h with
  | sample hs => exact (afterSample_input s).imp And.symm (fun hin => ⟨.inl hs, hin.symm⟩)
  | resetSample hs => exact (afterSample_input s).imp And.symm (fun hin => ⟨.inr hs, hin.symm⟩)
  | _ => exact .inl ⟨rfl, rfl⟩

theorem EngineStep.input_ne (h : EngineStep s t)
    (hne : t.sampleCount ≠ s.sampleCount ∨ t.lineInput ≠ s.lineInput) : s.state = .sample ∨ s.state = .resetSample := by
  obtain ⟨hcount, hin⟩ | ⟨hs, -⟩ := h.input_cases
  · exact absurd hne (by simp [hcount, hin])
  · exact hs

end EngineFrame

/-- Settles O46: the frame as a whole, then the registers of the engine's side one by one. -/
theorem whatTheEngineNeverDoes : Obligations.WhatTheEngineNeverDoes := by
  intro s t e
  have h := EngineStep.of_event e
  have hout := h.outsideEngine_eq
  simp only [State.outsideEngine, OutsideEngine.mk.injEq] at hout
  obtain ⟨hid, hdisc, hfam, hflag, hzero, hpos, hidBit, hcmpBit, hdir, hresult, hbusy, hword, hphase, hinit, hcmds,
    hconfig, hsched, hturns⟩ := hout
  exact ⟨hid, hdisc, hfam, hflag, hzero, hpos, hidBit, hcmpBit, hdir, hresult, hbusy, hword, hphase, hinit, hcmds,
    hconfig, h.lineDrive_high, h.bitsRemaining_ne, h.shiftRegister_ne, h.reloadTicks_ne, h.reloadPeriod_ne, hsched,
    hturns, h.input_ne, h.input_cases.imp_right And.right⟩

section Slots

/-! ### Samples and slots (R102, R120) -/

variable {s : State}

theorem event_startBit_one (hs : s.state = .startBit) (h : s.shiftRegister.toNat % 2 = 1) :
    event s = .next (((s.setLine .low).setTimerTo s.config.tW1Low).toState .readWait) := by
  rw [event_eq, hs]; exact execStStartBit_one h

theorem event_startBit_zero (hs : s.state = .startBit) (h : s.shiftRegister.toNat % 2 ≠ 1) :
    event s = .next (((s.setLine .low).setTimerTo s.config.tW0Low).toState .release) := by
  rw [event_eq, hs]; exact execStStartBit_zero h

theorem event_readWait (hs : s.state = .readWait) :
    event s = .next (((s.setLine .released).setTimerTo s.config.tRdWait).toState .sample) := by
  rw [event_eq, hs]; rfl

theorem event_sample (hs : s.state = .sample) :
    event s = .next ((s.afterSample.shiftInBit s.sampleBit).setTimerTo s.config.tSlotTail).endSlot := by
  rw [event_eq, hs]; rfl

theorem event_release (hs : s.state = .release) :
    event s = .next (((s.setLine .released).shiftInBit false).setTimerTo s.config.tW0Rec).endSlot := by
  rw [event_eq, hs]; rfl

theorem event_resetSample (hs : s.state = .resetSample) :
    event s = .next (((s.afterSample.shiftInBit s.sampleBit).setTimerTo s.config.tRstRec).toState .resetRecover) := by
  rw [event_eq, hs]; rfl

/-- Both sampling micro-steps take the sample in at bit 7 (R106, R110). -/
theorem event_of_sampling (hs : s.state = .sample ∨ s.state = .resetSample) :
    ∃ t, event s = .next t ∧ t.shiftRegister = shiftIn s.sampleBit s.shiftRegister := by
  rcases hs with hs | hs
  · exact ⟨_, event_sample hs, by simp⟩
  · exact ⟨_, event_resetSample hs, by simp⟩

/-- The engine samples only in two states, and in both the invariant has the line released (R41). -/
theorem EngineInv.released_of_sampling (h : EngineInv s) (hs : s.state = .sample ∨ s.state = .resetSample) :
    s.lineDrive = .released := by
  rw [h.lineDrive_eq]
  rcases hs with hs | hs <;> rw [hs] <;> rfl

theorem shiftIn_toNat_div (b : Bool) (sr : Byte) : (shiftIn b sr).toNat / 128 = if b then 1 else 0 := by
  have := sr.isLt
  rw [shiftIn_toNat]
  split <;> omega

end Slots

/-- Settles O51: the released line has the environment's level, and that bit enters at bit 7. -/
theorem engineSamplesOnlyTheReleasedLine : Obligations.EngineSamplesOnlyTheReleasedLine := by
  intro s h hs
  have hline := h.engine.released_of_sampling hs
  obtain ⟨t, e, hsr⟩ := event_of_sampling hs
  refine ⟨hline, t, e, ?_⟩
  rw [hsr, shiftIn_toNat_div, sampleBit_released s hline, lineLevel_eq]

/-- Settles O57: the events of the slot in a row; a 1 slot samples after `ReadWait` has released the line. -/
theorem slotLaw : Obligations.SlotLaw := by
  intro s hs
  by_cases hbit : s.shiftRegister.toNat % 2 = 1
  · simp only [hbit, true_and, if_true]
    have e := (events_succ (event_startBit_one hs hbit) 2).trans
      ((events_succ (event_readWait rfl) 1).trans (events_succ (event_sample rfl) 0))
    refine ⟨_, e, ?_, rfl, endSlot_state_eq _, rfl, rfl⟩
    rw [← lineLevel_eq, Nat.add_comm]
    exact shiftIn_toNat s.lineLevel s.shiftRegister
  · simp only [hbit, false_and, if_false]
    have e := (events_succ (event_startBit_zero hs hbit) 1).trans (events_succ (event_release rfl) 0)
    refine ⟨_, e, ?_, rfl, endSlot_state_eq _, rfl, rfl⟩
    exact (shiftIn_toNat false s.shiftRegister).trans (Nat.zero_add _)

section Countdown

/-! ### The number of events to `Idle` (R122) -/

/-- A slot is 2 events, and one more where it sends a 1. -/
theorem slotEvents_eq (n : Nat) (sr : Byte) :
    slotEvents n sr = 2 * n + ((List.range n).filter sr.getLsbD).length := by
  induction n generalizing sr with
  | zero => rfl
  | succ n ih =>
    have hshift : (sr >>> 1).getLsbD = sr.getLsbD ∘ Nat.succ := by
      funext k; simp [Nat.add_comm]
    rw [slotEvents, ih, hshift, List.range_succ_eq_map, List.filter_cons, List.filter_map]
    split
    · simp only [List.length_cons, List.length_map]; omega
    · simp only [List.length_map]; omega

/-- The first slot of one or more. -/
theorem slotEvents_of_pos {n : Nat} (hn : 1 ≤ n) (sr : Byte) :
    slotEvents n sr = (if sr.toNat % 2 = 1 then 3 else 2) + slotEvents (n - 1) (sr >>> 1) := by
  obtain ⟨k, rfl⟩ := Nat.exists_eq_add_of_le' hn
  simp [slotEvents, BitVec.getLsbD, Nat.testBit_zero]

/-- The bit a slot shifts in is not sent by the slots that are left: at most 7 of them. -/
theorem slotEvents_shiftIn (b : Bool) (sr : Byte) {n : Nat} (hn : n < 8) :
    slotEvents n (shiftIn b sr) = slotEvents n (sr >>> 1) := by
  have hbits : ∀ k ∈ List.range n, (shiftIn b sr).getLsbD k = (sr >>> 1).getLsbD k := by
    intro k hk
    have hk : k < n := List.mem_range.mp hk
    rw [shiftIn_bit b sr k (by omega), if_neg (by omega), BitVec.getLsbD_ushiftRight, Nat.add_comm]
  rw [slotEvents_eq, slotEvents_eq, List.filter_congr hbits]

variable {s t : State}

/-- After a slot, the events of the slots that are left. -/
theorem endSlot_eventsToIdle (hn : 1 ≤ s.bitsRemaining.toNat) :
    s.endSlot.eventsToIdle = slotEvents (s.bitsRemaining.toNat - 1) s.shiftRegister := by
  have hleft : (s.bitsRemaining - 1).toNat = s.bitsRemaining.toNat - 1 := by bv_omega
  rw [State.eventsToIdle, endSlot_state_eq]
  by_cases hlast : s.bitsRemaining.toNat = 1
  · simp [hlast, slotEvents]
  · rw [if_neg hlast]; exact congrArg (slotEvents · s.shiftRegister) hleft

/-- Every event outside `Idle` counts one down; in a slot that needs 1 to 8 slots left, which the invariant says. -/
theorem EngineStep.eventsToIdle (h : EngineStep s t) (hi : EngineInv s) (hs : s.state ≠ .idle) :
    t.eventsToIdle + 1 = s.eventsToIdle := by
  have hslots := hi.slotsLeft
  cases h with
  | idle h0 => exact absurd h0 hs
  | startOne h0 hbit | startZero h0 hbit =>
    have hn : 1 ≤ s.bitsRemaining.toNat := (hslots (by rw [h0]; rfl)).1
    simp [State.eventsToIdle, h0, slotEvents_of_pos hn, hbit, Nat.add_right_comm _ _ 1]
  | readWait h0 => simp [State.eventsToIdle, h0, Nat.add_right_comm _ _ 1]
  | sample h0 | release h0 =>
    obtain ⟨hn, hn8⟩ := hslots (by rw [h0]; rfl)
    rw [endSlot_eventsToIdle (by simpa using hn)]
    simp [State.eventsToIdle, h0, slotEvents_shiftIn _ _ (show s.bitsRemaining.toNat - 1 < 8 by omega), Nat.add_comm]
  | resetPulse h0 | resetRelease h0 | resetSample h0 | resetRecover h0 | delayEnd h0 => simp [State.eventsToIdle, h0]
  | delaySetUp r h0 => rcases h0 with h0 | h0 | h0 <;> simp [State.eventsToIdle, h0, Nat.add_comm]
  | strongPullup h0 => simp [State.eventsToIdle, h0, Nat.add_comm]
  | counts h0 hp =>
    have hone := fullPeriod_sub_one _ hp
    rcases h0 with h0 | h0 <;> simpa [State.eventsToIdle, h0] using hone
  | delayOver h0 hp | pullupOver h0 hp => simp only [State.eventsToIdle, h0, hp]; rfl

end Countdown

/-- Settles O52: the countdown asks for the engine's part of the invariant only. -/
theorem everyEventCountsDown : Obligations.EveryEventCountsDown := by
  intro s h hs
  obtain ⟨t, e, hstep⟩ := event_engineStep s
  exact ⟨t, e, hstep.eventsToIdle h.engine hs⟩

/-- By induction on the count: `Idle` is reached when it is used up, and not before. -/
theorem Inv.runsToIdle {s : State} (h : Inv s) {n : Nat} (hn : s.eventsToIdle = n) :
    ∃ t, events n s = .next t ∧ t.state = .idle ∧ ∀ k, k < n → ∃ u, events k s = .next u ∧ u.state ≠ .idle := by
  induction n generalizing s with
  | zero =>
    refine ⟨s, rfl, ?_, nofun⟩
    by_contra hs
    obtain ⟨t, -, hdown⟩ := everyEventCountsDown s h hs
    omega
  | succ n ih =>
    have hs : s.state ≠ .idle := fun hs => by simp [State.eventsToIdle, hs] at hn
    obtain ⟨t, e, hdown⟩ := everyEventCountsDown s h hs
    obtain ⟨u, hu, hidle, hbefore⟩ := ih (h.event e) (by omega)
    refine ⟨u, (events_succ e n).trans hu, hidle, fun k hk => ?_⟩
    cases k with
    | zero => exact ⟨s, rfl, hs⟩
    | succ k => rw [events_succ e]; exact hbefore k (by omega)

/-- Settles O53: the countdown ends in `Idle`, and its length is read off in each armed state. -/
theorem armedOperationRunsToIdle : Obligations.ArmedOperationRunsToIdle := by
  refine ⟨fun s h => h.runsToIdle rfl, fun s hs => ?busReset, fun s hs _ => ?slots, fun s hs => ?delay,
    fun s hs hc => ?pullup⟩
  case busReset => simp [State.eventsToIdle, hs]
  case slots => simp only [State.eventsToIdle, hs]; exact slotEvents_eq _ _
  case delay => rcases hs with hs | hs | hs <;> simp [State.eventsToIdle, hs, fullPeriod]
  case pullup => simp [State.eventsToIdle, hs, hc, Config.standard, fullPeriod]

end Sys2Proof.Machine

/-! # The bit and byte driver (41_bit_byte_driver.md)

Who takes a step (R70, R141), each command of the driver in both of its steps (R144 to R150), and what a command's
slots leave behind: they shift the wire's levels into `shiftRegister`, the first into the lowest bit (R63, R120). -/

namespace Sys2Proof.Machine

section FrontEndTurns

/-! ### Who takes a step (R70, R140, R141) -/

variable {s : State}

/-- A front end without a step leaves the turn to the engine (R205). -/
theorem step_of_not_ready (hready : s.frontEndReady = false) (hturn : s.schedule.head? ≠ some .resetInput) :
    step s = event s.tick := by
  obtain ⟨hreset, -⟩ | ⟨-, hstep⟩ | ⟨-, hready', -⟩ := step_cases s
  · exact absurd hreset hturn
  · exact hstep
  · exact absurd hready' (by simp [hready])

/-- `AwaitIdle` holds a command while the engine is not idle (R141). -/
theorem frontEndReady_of_held {i : Instr} (hrun : s.running = true) (hd : decodeCmd s.cmdWord = .ok i)
    (hg : gatedAt i s.phase = true) (hs : s.state ≠ .idle) : s.frontEndReady = false := by
  simp [State.frontEndReady, hrun, hd, hg, State.isIdle, hs]

/-- No `AwaitIdle` holds a command that is at no gate, or at one while the engine is idle. -/
theorem frontEndReady_of_not_held {i : Instr} (hrun : s.running = true) (hd : decodeCmd s.cmdWord = .ok i)
    (hg : gatedAt i s.phase = false ∨ s.state = .idle) : s.frontEndReady = true := by
  rcases hg with hg | hs
  · simp [State.frontEndReady, hrun, hd, hg]
  · simp [State.frontEndReady, hrun, hd, State.isIdle, hs]

theorem frontEndReady_of_free (hrun : s.running = false) : s.frontEndReady = !s.hostCommands.isEmpty := by
  simp [State.frontEndReady, hrun]

/-- The front end's turn, listed or free, executes the instruction it fetches; a free turn may be the engine's. -/
theorem step_of_ready {i : Instr} {u : State} (hready : s.frontEndReady = true)
    (hf : fetchCommand s.tick = .run i u) :
    (s.schedule.head? = some .frontEnd → step s = exec i u)
      ∧ (s.schedule = [] → step s = exec i u ∨ step s = exec s.state.microStep s.tick) := by
  constructor
  · intro hturn
    obtain ⟨turns, hturns⟩ := List.head?_eq_some_iff.mp hturn
    simp [step, fetch, hturns, hready, State.turnToFrontEnd, hf]
  · intro hturns
    by_cases hturn : s.turnToFrontEnd = true
    · exact .inl (by simp [step, fetch, hturns, hready, hturn, hf])
    · exact .inr (by simp [step, fetch, hturns, hturn, State.deliverEvent])

/-- Inside a command the front end fetches that command's next step. -/
theorem fetchCommand_of_running {i : Instr} (hrun : s.running = true) (hd : decodeCmd s.cmdWord = .ok i) :
    fetchCommand s = .run i s := by
  simp [fetchCommand, hrun, hd]

/-- A free front end accepts the next command presented; before the first INIT or reset that command is INIT. -/
theorem fetchCommand_of_presented {i : Instr} {w : CmdWord} {ws : List CmdWord} (hrun : s.running = false)
    (hcmds : s.hostCommands = w :: ws) (hd : decodeCmd w = .ok i) (hi : s.initialised = true ∨ i = .init) :
    fetchCommand s = .run i (s.accept w) := by
  simp [fetchCommand, hrun, hcmds, present, hd, hi]

end FrontEndTurns

/-- Settles O54, by induction on the events left: while the command is held each step is one event, which brings
`Idle` one nearer and touches nothing of the front end. -/
theorem heldCommandIsReleased : Obligations.HeldCommandIsReleased := by
  intro s i h hinit hbusy hd hg hturns
  induction hn : s.eventsToIdle generalizing s with
  | zero =>
    obtain ⟨t, e, hidle, -⟩ := h.runsToIdle hn
    cases e
    exact ⟨s, rfl, hidle, rfl, rfl, hbusy, rfl⟩
  | succ n ih =>
    have hs : s.state ≠ .idle := fun hs => by simp [State.eventsToIdle, hs] at hn
    have hready := frontEndReady_of_held (by simp [State.running, hinit, hbusy]) hd hg hs
    have hstep := step_of_not_ready hready (fun hturn => hturns (List.mem_of_head? hturn))
    obtain ⟨t, e, hdown⟩ := everyEventCountsDown s.tick h.tick hs
    have hout := (EngineStep.of_event e).outsideEngine_eq
    simp only [State.outsideEngine, OutsideEngine.mk.injEq] at hout
    obtain ⟨-, -, -, -, -, -, -, -, -, hresult, hbusy', hword, hphase, hinit', -, -, hsched, -⟩ := hout
    have hcount : s.tick.eventsToIdle = s.eventsToIdle := rfl
    obtain ⟨u, hu, hidle, uword, uphase, ubusy, uresult⟩ := ih t (h.tick.event e) (hinit'.trans hinit)
      (hbusy'.trans hbusy) (hword ▸ hd) (hphase ▸ hg)
      (hsched ▸ fun hmem => hturns (List.mem_of_mem_tail hmem)) (by omega)
    exact ⟨u, (steps_succ (hstep.trans e) n).trans hu, hidle, uword.trans hword, uphase.trans hphase, ubusy,
      uresult.trans hresult⟩

/-- Settles O5: a free front end is ready once a command is presented, and what it fetches is that command. -/
theorem stepRunsThePresentedCommand : Obligations.StepRunsThePresentedCommand := by
  intro s w ws i hfree hcmds hd
  have hrun : s.running = false := by rcases hfree with ⟨-, h⟩ | ⟨h, -⟩ <;> simp [State.running, h]
  have hf : fetchCommand s.tick = .run i (s.tick.accept w) :=
    fetchCommand_of_presented hrun hcmds hd (hfree.imp And.left And.right)
  have haccepted : s.tick.accept w = { s.tick with
      cmdBusy := true, cmdWord := w, phase := .start, hostCommands := ws } := by simp [State.accept, hcmds]
  rw [haccepted] at hf
  exact step_of_ready (by simp [frontEndReady_of_free hrun, hcmds]) hf

/-- Settles O6: the command is not held, so the front end is ready and fetches its next step. -/
theorem stepContinuesTheAcceptedCommand : Obligations.StepContinuesTheAcceptedCommand := by
  intro s i hinit hbusy hd hg
  have hrun : s.running = true := by simp [State.running, hinit, hbusy]
  exact step_of_ready (frontEndReady_of_not_held hrun hd hg) (fetchCommand_of_running (s := s.tick) hrun hd)

/-- Settles O8: held, or with nothing presented, the front end is not ready. -/
theorem heldFrontEndLeavesTheTurnToTheEngine : Obligations.HeldFrontEndLeavesTheTurnToTheEngine := by
  intro s hturn h
  have hready : s.frontEndReady = false := by
    obtain ⟨i, hinit, hbusy, hd, hg, hs⟩ | ⟨hbusy, hcmds⟩ := h
    · exact frontEndReady_of_held (by simp [State.running, hinit, hbusy]) hd hg hs
    · rw [frontEndReady_of_free (by simp [State.running, hbusy]), hcmds]; rfl
  exact (step_of_not_ready hready hturn).trans (event_eq _)

section DriverCommands

/-! ### The commands in both of their steps (R144 to R150) -/

/-- A command that arms and returns at once: it arms in `Idle`, is held until then, and returns 0x00. -/
theorem armAndReturn_steps (s : State) (arm : State → State) :
    (s.phase = .start → s.state = .idle → armAndReturn s arm = .next ((arm s).atPhase .finish))
      ∧ (s.phase = .start → s.state ≠ .idle → armAndReturn s arm = .next s)
      ∧ (s.phase = .finish → armAndReturn s arm = .next (s.ret 0x00)) := by
  refine ⟨fun hp hs => ?arms, fun hp hs => ?held, fun hp => ?returns⟩
  case arms => simp only [armAndReturn, hp]; exact whenIdle_idle hs _
  case held => simp only [armAndReturn, hp]; exact whenIdle_held hs _
  case returns => simp only [armAndReturn, hp]

/-- A command that arms, waits and returns a value: it is held at both of its steps while the engine is not idle. -/
theorem armAndCollect_steps (s : State) (arm : State → State) (value : State → Byte) :
    (s.phase = .start → s.state = .idle → armAndCollect s arm value = .next ((arm s).atPhase .finish))
      ∧ (s.phase = .finish → s.state = .idle → armAndCollect s arm value = .next (s.ret (value s)))
      ∧ (s.phase = .start ∨ s.phase = .finish → s.state ≠ .idle → armAndCollect s arm value = .next s) := by
  refine ⟨fun hp hs => ?arms, fun hp hs => ?returns, fun hp hs => ?held⟩
  case arms => simp only [armAndCollect, hp]; exact whenIdle_idle hs _
  case returns => simp only [armAndCollect, hp]; exact whenIdle_idle hs _
  case held => rcases hp with hp | hp <;> simp only [armAndCollect, hp] <;> exact whenIdle_held hs _

theorem lowBit_eq_ofNat (a : Byte) : lowBit a = BitVec.ofNat 8 (a.toNat % 2) := by
  revert a; decide

/-- The sampled bit as a byte: bit 7 is all that a division by 128 leaves. -/
theorem boolByte_sampledBit (s : State) : boolByte s.sampledBit = BitVec.ofNat 8 (s.shiftRegister.toNat / 128) := by
  unfold State.sampledBit; generalize s.shiftRegister = sr; revert sr; decide

theorem boolByte_presence (s : State) : boolByte s.presence = if s.shiftRegister.toNat < 128 then 0x01 else 0x00 := by
  simp only [boolByte, presence_iff]

end DriverCommands

/-- Settles O25: the steps of a command that returns at once, arming eight slots. -/
theorem wrbyteCommand : Obligations.WrbyteCommand :=
  fun a s => armAndReturn_steps s (fun s => s.armSlots a 8)

/-- Settles O26: the steps of a command that returns at once, arming one slot with the operand's low bit. -/
theorem wrbitCommand : Obligations.WrbitCommand := by
  intro a s
  rw [← lowBit_eq_ofNat]
  exact armAndReturn_steps s (fun s => s.armSlots (lowBit a) 1)

/-- Settles O27: the steps of a command that waits, arming eight slots. -/
theorem rdbyteCommand : Obligations.RdbyteCommand :=
  fun s => armAndCollect_steps s (fun s => s.armSlots 0xFF 8) (fun s => s.shiftRegister)

/-- Settles O28: the steps of a command that waits, arming one slot; its value is the sampled bit. -/
theorem rdbitCommand : Obligations.RdbitCommand := by
  intro s
  rw [← boolByte_sampledBit]
  exact armAndCollect_steps s (fun s => s.armSlots 0x01 1) (fun s => boolByte s.sampledBit)

/-- Settles O29: the steps of a command that waits, arming the bus reset; its value is the presence. -/
theorem resetCommand : Obligations.ResetCommand := by
  intro s
  rw [← boolByte_presence]
  exact armAndCollect_steps s (fun s => s.toState .resetPulse) (fun s => boolByte s.presence)

/-- Settles O31: the one step returns the test of `state`, whatever the phase is. -/
theorem isidleCommand : Obligations.IsidleCommand := by
  intro s
  have hexec : exec .isidle s = .next (s.ret (boolByte s.isIdle)) := rfl
  rw [hexec]
  constructor
  · intro hs; rw [(isIdle_iff s).mpr hs]; rfl
  · intro hs; rw [Bool.eq_false_iff.mpr (mt (isIdle_iff s).mp hs)]; rfl

section SlotRuns

/-! ### What a run of slots leaves (R63, R120) -/

variable {s t u : State}

theorem events_add {m : Nat} (h : events m s = .next t) (n : Nat) : events (m + n) s = events n t := by
  induction m generalizing s with
  | zero => cases h; rw [Nat.zero_add]
  | succ m ih =>
    obtain ⟨v, hv⟩ := event_next s
    rw [events_succ hv] at h
    rw [Nat.add_right_comm, events_succ hv, ih h]

/-- The frame of any number of events (R124). -/
theorem events_outsideEngine {n : Nat} (h : events n s = .next t) : t.outsideEngine = s.outsideEngine := by
  induction n generalizing s with
  | zero => cases h; rfl
  | succ n ih =>
    obtain ⟨v, hv⟩ := event_next s
    rw [events_succ hv] at h
    exact (ih h).trans (EngineStep.of_event hv).outsideEngine_eq

/-- One slot: a 1 is sent as 3 events and takes the sample `level`, a 0 as 2 and takes none; the wire's level, 0 in a
0 slot, enters at bit 7. -/
theorem events_slot {level : Bool} {rest : List Bool} (hs : s.state = .startBit)
    (hlow : s.outBit = false → level = false) (hin : s.lineInput = (if s.outBit then [level] else []) ++ rest) :
    ∃ t, events (2 + if s.outBit then 1 else 0) s = .next t ∧ t.shiftRegister = shiftIn level s.shiftRegister
      ∧ t.bitsRemaining = s.bitsRemaining - 1
      ∧ t.state = (if s.bitsRemaining.toNat = 1 then .idle else .startBit) ∧ t.lineInput = rest := by
  obtain ⟨t, e, hsr, hbits, hstate, hrest, -⟩ := slotLaw s hs
  simp only [← outBit_iff] at e hsr hrest
  refine ⟨t, ?_, BitVec.eq_of_toNat_eq ?_, hbits, hstate, ?_⟩
  · rw [← e]; split <;> rfl
  · rw [hsr, shiftIn_toNat]
    cases hout : s.outBit with
    | false => simp [hlow hout]
    | true => simp [hin, hout, Nat.add_comm]
  · rw [hrest, hin]; split <;> rfl

/-- The slots that send a 1: the first slot apart from those after it. -/
theorem filter_range_succ (bits : Nat → Bool) (n : Nat) :
    (List.range (n + 1)).filter bits
      = (if bits 0 then [0] else []) ++ ((List.range n).filter (bits ∘ Nat.succ)).map Nat.succ := by
  rw [List.range_succ_eq_map, List.filter_cons, List.filter_map]
  split <;> rfl

/-- The shift register is a window of 8 bits on a sequence `bits`, in which the level of the wire in slot `k` follows as
bit `k + 8`; each slot sends the window's first bit and moves the window by one. The environment gives the level in the
1 slots; in a 0 slot it is 0. -/
theorem events_slots {bits : Nat → Bool} {n : Nat} {rest : List Bool}
    (hs : s.state = if n = 0 then .idle else .startBit) (hcount : s.bitsRemaining.toNat = n)
    (hwindow : ∀ k, k < 8 → s.shiftRegister.getLsbD k = bits k)
    (hlow : ∀ k, k < n → bits k = false → bits (k + 8) = false)
    (hin : s.lineInput = ((List.range n).filter bits).map (fun k => bits (k + 8)) ++ rest) :
    ∃ t, events (2 * n + ((List.range n).filter bits).length) s = .next t ∧ t.state = .idle
      ∧ t.bitsRemaining = 0 ∧ t.lineInput = rest ∧ ∀ k, k < 8 → t.shiftRegister.getLsbD k = bits (k + n) := by
  induction n generalizing s bits with
  | zero => exact ⟨s, rfl, hs, BitVec.eq_of_toNat_eq hcount, hin, hwindow⟩
  | succ n ih =>
    have hout : s.outBit = bits 0 := hwindow 0 (by decide)
    rw [filter_range_succ] at hin ⊢
    obtain ⟨t, e, hsr, htcount, htstate, htin⟩ := events_slot (level := bits 8)
      (rest := ((List.range n).filter (bits ∘ Nat.succ)).map (fun k => bits (k + 1 + 8)) ++ rest) (by simpa using hs)
      (fun h => hlow 0 (Nat.succ_pos n) (hout ▸ h))
      (by rw [hin, hout, List.map_append, List.map_map, List.append_assoc]; split <;> rfl)
    have hmoved : ∀ k, k < 8 → t.shiftRegister.getLsbD k = bits (k + 1) := by
      intro k hk
      rw [hsr, shiftIn_bit _ _ k hk]
      split
      · next hlast => rw [hlast]
      · next hlast => exact hwindow (k + 1) (by omega)
    obtain ⟨u, hu, hidle, hzero, hrest, hregister⟩ := ih (s := t) (bits := bits ∘ Nat.succ)
      (by rw [htstate, hcount]; simp) (by bv_omega) hmoved
      (fun k hk h => (congrArg bits (Nat.add_right_comm k 8 1)).trans (hlow (k + 1) (Nat.succ_lt_succ hk) h)) htin
    refine ⟨u, ?_, hidle, hzero, hrest, hregister⟩
    rw [← hu, ← events_add e, hout]
    congr 1
    split <;> simp <;> omega

/-- A byte's worth of slots, armed with `sr`: afterwards `shiftRegister` holds the eight levels of the wire. -/
theorem events_armedByte (s : State) (p : Phase) (sr level : Byte) {rest : List Bool}
    (hlow : ∀ k, k < 8 → sr.getLsbD k = false → level.getLsbD k = false)
    (hin : s.lineInput = ((List.range 8).filter sr.getLsbD).map level.getLsbD ++ rest) :
    ∃ t, events (16 + ((List.range 8).filter sr.getLsbD).length) ((s.armSlots sr 8).atPhase p) = .next t
      ∧ t.state = .idle ∧ t.bitsRemaining = 0 ∧ t.lineInput = rest ∧ t.shiftRegister = level := by
  have hsent : ∀ k, k < 8 → (level ++ sr).getLsbD k = sr.getLsbD k := fun k hk => by
    rw [BitVec.getLsbD_append, if_pos hk]
  have hlevel : ∀ k, (level ++ sr).getLsbD (k + 8) = level.getLsbD k := fun k => by
    rw [BitVec.getLsbD_append, if_neg (by omega), Nat.add_sub_cancel]
  have hones : (List.range 8).filter (level ++ sr).getLsbD = (List.range 8).filter sr.getLsbD :=
    List.filter_congr fun k hk => hsent k (List.mem_range.mp hk)
  obtain ⟨t, e, hidle, hzero, hrest, hregister⟩ := events_slots (s := (s.armSlots sr 8).atPhase p)
    (bits := (level ++ sr).getLsbD) (n := 8) (rest := rest) rfl rfl (fun k hk => (hsent k hk).symm)
    (fun k hk => by rw [hlevel, hsent k hk]; exact hlow k hk) (by simp only [hones, hlevel]; exact hin)
  rw [hones] at e
  exact ⟨t, e, hidle, hzero, hrest, BitVec.eq_of_getLsbD_eq fun k hk => (hregister k hk).trans (hlevel k)⟩

end SlotRuns

/-- Settles O58: RDBYTE sends eight 1 bits, so every level of the wire is a sample. -/
theorem readByteReturnsTheSamples : Obligations.ReadByteReturnsTheSamples := by
  intro s sent rest hp hs hin
  have hsends : ∀ k, k < 8 → (0xFF : Byte).getLsbD k = true := by decide
  have hones : (List.range 8).filter (0xFF : Byte).getLsbD = List.range 8 :=
    List.filter_eq_self.mpr fun k hk => hsends k (List.mem_range.mp hk)
  obtain ⟨harms, -, -⟩ := rdbyteCommand s
  obtain ⟨t, e, hidle, -, hrest, hsr⟩ := events_armedByte s .finish 0xFF sent
    (fun k hk h => absurd h (ne_false_of_eq_true (hsends k hk))) (by rw [hones]; exact hin)
  have hphase : t.phase = .finish := congrArg OutsideEngine.phase (events_outsideEngine e)
  obtain ⟨-, hreturns, -⟩ := rdbyteCommand t
  rw [hones] at e
  exact ⟨_, t, _, harms hp hs, e, hidle, hreturns hphase hidle, hsr, hrest, rfl⟩

/-- Settles O59: with no device pulling low, the wire's level in each slot is the bit written. -/
theorem writtenByteIsBackAfterItsSlots : Obligations.WrittenByteIsBackAfterItsSlots := by
  intro s a rest hp hs ones hin
  have hsamples : ((List.range 8).filter a.getLsbD).map a.getLsbD = List.replicate ones true :=
    List.eq_replicate_iff.mpr ⟨List.length_map _, List.forall_mem_map.mpr fun _ hk => (List.mem_filter.mp hk).2⟩
  obtain ⟨harms, -, -⟩ := wrbyteCommand a s
  obtain ⟨t, e, hidle, hzero, hrest, hsr⟩ :=
    events_armedByte s .finish a a (fun _ _ h => h) (by rw [hsamples]; exact hin)
  exact ⟨_, t, harms hp hs, e, hidle, hsr, hzero, hrest⟩

end Sys2Proof.Machine

/-! # The delays (42_delay.md)

The delay commands in both of their steps (R160 to R163), and the countdown that a delay and a strong pullup share: its
events are equally spaced, and only the last of them touches anything but `reloadPeriod` (R115, R118, R164). -/

namespace Sys2Proof.Machine

/-- Settles O30: four commands that return at once; they differ in what they arm. -/
theorem delayCommands : Obligations.DelayCommands := by
  intro a b s
  obtain ⟨hdelay1, hdelay1'⟩ := armAndReturn_steps s (fun s => s.armDelay .delay1 a b)
  obtain ⟨hdelay8, hdelay8'⟩ := armAndReturn_steps s (fun s => s.armDelay .delay8 a b)
  obtain ⟨hdelay128, hdelay128'⟩ := armAndReturn_steps s (fun s => s.armDelay .delay128 a b)
  obtain ⟨hspudelay, hspudelay'⟩ := armAndReturn_steps s (fun s => s.toState .strongPullup)
  refine ⟨fun hp hs => ⟨hdelay1 hp hs, hdelay8 hp hs, hdelay128 hp hs, hspudelay hp hs⟩, ?_⟩
  rintro i (rfl | rfl | rfl | rfl)
  exacts [hdelay1', hdelay8', hdelay128', hspudelay']

section Countdown

/-! ### Counted events (R115, R118) -/

/-- The count of R112 by the operand's number. -/
theorem fullCount_eq_toNat (x : Byte) : fullCount x = if x.toNat = 0 then 256 else x.toNat :=
  if_congr BitVec.toNat_inj.symm rfl rfl

/-- The period of R25 by the operand's number. -/
theorem fullPeriod_eq_toNat (x : HWord) : fullPeriod x = if x.toNat = 0 then 65536 else x.toNat :=
  if_congr BitVec.toNat_inj.symm rfl rfl

theorem eq_one_of_fullPeriod_eq_one {x : HWord} (h : fullPeriod x = 1) : x = 1 := by
  unfold fullPeriod at h
  split at h
  · omega
  · exact BitVec.eq_of_toNat_eq h

/-- A delay or a strong pullup is under way: the engine counts events, and the time to the next one is the reload value,
as the set-up and every counted event leave it. -/
structure State.Counting (s : State) : Prop where
  counts : s.state = .delaying ∨ s.state = .strongPullupDelay
  timer : s.timerCompare = s.reloadTicks

variable {s : State}

theorem event_delaying (hs : s.state = .delaying) : event s = countEvent s id := by
  rw [event_eq, hs]; rfl

theorem event_strongPullupDelay (hs : s.state = .strongPullupDelay) :
    event s = countEvent s (fun s => s.setLine .released) := by
  rw [event_eq, hs]; rfl

/-- An event that is not the last only counts: it asks for the same time again. -/
theorem State.Counting.event_ne_one (h : s.Counting) (hp : s.reloadPeriod ≠ 1) :
    event s = .next { s with reloadPeriod := s.reloadPeriod - 1 } := by
  rcases h.counts with hs | hs
  · rw [event_delaying hs, countEvent_ne_one hp, ← h.timer]
  · rw [event_strongPullupDelay hs, countEvent_ne_one hp, ← h.timer]

/-- Before the last event, each event has taken one from the count and changed nothing else. -/
theorem State.Counting.events_lt (h : s.Counting) {n : Nat} (hn : n < fullPeriod s.reloadPeriod) :
    ∃ p, events n s = .next { s with reloadPeriod := p } ∧ fullPeriod p + n = fullPeriod s.reloadPeriod := by
  induction n generalizing s with
  | zero => exact ⟨s.reloadPeriod, rfl, rfl⟩
  | succ n ih =>
    have hp : s.reloadPeriod ≠ 1 := fun hp => by rw [hp, fullPeriod_one] at hn; omega
    have hone := fullPeriod_sub_one _ hp
    obtain ⟨p, e, hleft⟩ := ih (s := { s with reloadPeriod := s.reloadPeriod - 1 }) ⟨h.counts, h.timer⟩
      (by simp only; omega)
    exact ⟨p, (events_succ (h.event_ne_one hp) n).trans e, by simp only at hleft; omega⟩

/-- The whole countdown is its last event, with the count at 1. -/
theorem State.Counting.events_fullPeriod (h : s.Counting) :
    events (fullPeriod s.reloadPeriod) s = event { s with reloadPeriod := 1 } := by
  obtain ⟨n, hn⟩ := Nat.exists_eq_add_of_le' (fullPeriod_pos s.reloadPeriod)
  obtain ⟨p, e, hleft⟩ := h.events_lt (n := n) (by omega)
  obtain rfl : p = 1 := eq_one_of_fullPeriod_eq_one (by omega)
  obtain ⟨t, ht⟩ := event_next { s with reloadPeriod := 1 }
  rw [hn, events_add e, events_succ ht, ht]
  rfl

/-- The events of a countdown are equally spaced, the last one too. -/
theorem State.Counting.elapsedMicros_eq (h : s.Counting) {n : Nat} (hn : n ≤ fullPeriod s.reloadPeriod) :
    elapsedMicros n s = n * s.requestedMicros := by
  induction n generalizing s with
  | zero => simp [elapsedMicros]
  | succ n ih =>
    rw [elapsedMicros, Nat.succ_mul, Nat.add_comm]
    congr 1
    by_cases hp : s.reloadPeriod = 1
    · obtain rfl : n = 0 := by rw [hp, fullPeriod_one] at hn; omega
      obtain ⟨t, ht⟩ := event_next s
      simp [ht, elapsedMicros]
    · have hone := fullPeriod_sub_one _ hp
      rw [h.event_ne_one hp]
      exact ih (s := { s with reloadPeriod := s.reloadPeriod - 1 }) ⟨h.counts, h.timer⟩ (by simp only; omega)

/-- The three set-ups of a delay differ in the resolution (R112 to R114). -/
theorem event_delaySetUp (hs : s.state = .delay1 ∨ s.state = .delay8 ∨ s.state = .delay128) :
    ∃ res : Resolution,
      event s = .next { s with state := .delaying, timerRes := res, timerCompare := s.reloadTicks }
      ∧ res.micros = if s.state = .delay1 then 1 else if s.state = .delay8 then 8 else 128 := by
  rw [event_eq]
  rcases hs with hs | hs | hs <;> rw [hs]
  exacts [⟨.r1, setUpDelay_eq s .r1, rfl⟩, ⟨.r8, setUpDelay_eq s .r8, rfl⟩, ⟨.r128, setUpDelay_eq s .r128, rfl⟩]

/-- The state after the first event of a strong pullup (R117). -/
def State.pullupStarted (s : State) : State :=
  { s with
    lineDrive := .high, state := .strongPullupDelay
    reloadTicks := BitVec.ofNat 8 s.config.spuCounts, reloadPeriod := BitVec.ofNat 16 s.config.spuEvents
    timerRes := .r128, timerCompare := BitVec.ofNat 8 s.config.spuCounts }

theorem event_strongPullup (hs : s.state = .strongPullup) : event s = .next s.pullupStarted := by
  rw [event_eq, hs]; rfl

/-- The first event of a strong pullup sets the timer to the value it stores (R117). -/
theorem State.pullupStarted_counting (s : State) : s.pullupStarted.Counting := ⟨.inr rfl, rfl⟩

end Countdown

/-- Settles O55: the set-up starts a countdown of P events, each N(A) counts after the one before. -/
theorem delayTakesItsLength : Obligations.DelayTakesItsLength := by
  intro s hs r counts period
  have hcounts : fullCount s.reloadTicks = counts := fullCount_eq_toNat _
  have hperiod : fullPeriod s.reloadPeriod = period := fullPeriod_eq_toNat _
  obtain ⟨res, hsetUp, hmicros⟩ := event_delaySetUp hs
  have hcounting : ({ s with state := .delaying, timerRes := res, timerCompare := s.reloadTicks } : State).Counting :=
    ⟨.inl rfl, rfl⟩
  rw [← hperiod]
  refine ⟨_, _, hsetUp, ?time,
    hcounting.events_fullPeriod.trans ((event_delaying rfl).trans (countEvent_one rfl id)), rfl, rfl, rfl⟩
  case time =>
    rw [hcounting.elapsedMicros_eq le_rfl, State.requestedMicros, hmicros, hcounts, Nat.mul_assoc, Nat.mul_comm counts]

/-- Settles O56: the first event drives the line and starts a countdown of 25 events; the last one releases it. -/
theorem strongPullupHoldsTheLineHigh : Obligations.StrongPullupHoldsTheLineHigh := by
  intro s hs hconfig
  have hsetUp := event_strongPullup hs
  have hcounting := s.pullupStarted_counting
  have hticks : s.pullupStarted.reloadTicks = 234 := congrArg (fun c : Config => BitVec.ofNat 8 c.spuCounts) hconfig
  have hperiod : fullPeriod s.pullupStarted.reloadPeriod = 25 :=
    congrArg (fun c : Config => fullPeriod (BitVec.ofNat 16 c.spuEvents)) hconfig
  have hlast := hcounting.events_fullPeriod.trans ((event_strongPullupDelay rfl).trans (countEvent_one rfl _))
  rw [hperiod] at hlast
  refine ⟨fun n hn hn25 => ?high, _, _, hsetUp, ?time, hlast, rfl, rfl, hticks, rfl, ?resolution⟩
  case high =>
    obtain ⟨n, rfl⟩ := Nat.exists_eq_add_of_le' hn
    obtain ⟨p, e, -⟩ := hcounting.events_lt (n := n) (hperiod ▸ hn25)
    exact ⟨_, (events_succ hsetUp n).trans e, rfl, rfl⟩
  case time =>
    have hmicros : s.pullupStarted.timerRes.micros = 128 := rfl
    rw [hcounting.elapsedMicros_eq hperiod.ge, State.requestedMicros, hcounting.timer, hticks, hmicros]
    decide
  case resolution => exact congrArg (fun c : Config => c.tIdle.res) hconfig

end Sys2Proof.Machine

/-! # The search (43_search.md)

CRC-8 takes a running value and a byte to a byte one-to-one in each, which is all that its laws need (R170, R171). The
commands of the search are one equation for each of their control points (R173 to R184). With one device on the bus the
passes of the front end and the slots of the engine follow each other in a fixed order (R187). -/

namespace Sys2Proof.Machine

section Crc

/-! ### CRC-8 (R170, R171) -/

/-- The iteration of R170 undone: bit 7 tells whether the constant was added. -/
def crcUnshift (c : Byte) : Byte := if c.getLsbD 7 then (c ^^^ 0x8C) <<< 1 ||| 1 else c <<< 1

theorem crcUnshift_crcShift (c : Byte) : crcUnshift (crcShift c) = c := by
  revert c; decide

theorem crcShift_inj {a b : Byte} : crcShift a = crcShift b ↔ a = b :=
  (Function.LeftInverse.injective crcUnshift_crcShift).eq_iff

theorem crc8Update_inj_running {a b x : Byte} : crc8Update a x = crc8Update b x ↔ a = b := by
  simp only [crc8Update, crcShift_inj, BitVec.xor_left_inj]

theorem crc8Update_inj_byte {r x y : Byte} : crc8Update r x = crc8Update r y ↔ x = y := by
  simp only [crc8Update, crcShift_inj, BitVec.xor_right_inj]

/-- The corner case of R170. -/
theorem crc8Update_self (x : Byte) : crc8Update x x = 0x00 := by
  rw [crc8Update, BitVec.xor_self]; rfl

/-- The oddness test of R170, as arithmetic. -/
theorem crcShift_eq (c : Byte) : crcShift c = if c.toNat % 2 = 1 then (c >>> 1) ^^^ 0x8C else c >>> 1 := by
  revert c; decide

theorem foldl_crc8Update_inj {a b : Byte} (bytes : List Byte) :
    bytes.foldl crc8Update a = bytes.foldl crc8Update b ↔ a = b := by
  induction bytes generalizing a b with
  | nil => rfl
  | cons x xs ih => rw [List.foldl_cons, List.foldl_cons, ih, crc8Update_inj_running]

/-- The check tells buffers apart that differ in one byte, wherever it stands. -/
theorem checkCrc_set_inj {bytes : List Byte} {i : Nat} (hi : i < bytes.length) {x y : Byte} :
    checkCrc (bytes.set i x) = checkCrc (bytes.set i y) ↔ x = y := by
  simp only [checkCrc, List.set_eq_take_append_cons_drop, hi, if_true, List.foldl_append, List.foldl_cons,
    foldl_crc8Update_inj, crc8Update_inj_byte]

end Crc

/-- Settles O33: the eight iterations one by one, each by its arithmetic form. -/
theorem crc8updCommand : Obligations.Crc8updCommand := by
  intro a b s
  refine ⟨?_, crc8Update_self a⟩
  have hexec : exec (.crc8upd a b) s = .next (s.ret (crc8Update (BitVec.ofNat 8 b.toNat) a)) := rfl
  simp only [hexec, crc8Update, crcShift_eq]
  rfl

/-- Settles O34: the last byte folded in gives 0 where it equals the running value, and only there. -/
theorem trailingByteIsTheCheckOfTheRest : Obligations.TrailingByteIsTheCheckOfTheRest := by
  intro bytes c
  have hfold : checkCrc (bytes ++ [c]) = crc8Update (checkCrc bytes) c := List.foldl_append
  rw [hfold, ← crc8Update_self (checkCrc bytes), crc8Update_inj_byte]

/-- Settles O35: with one bit of one byte changed the byte is another, so the check is. -/
theorem crcDetectsEverySingleBitMutation : Obligations.CrcDetectsEverySingleBitMutation := by
  intro bytes i k hk hvalid hmutated
  have hbit : ∀ k, k < 8 → 1#8 <<< k ≠ 0#8 := by decide
  have hi : i.val < bytes.toList.length := by simp
  have hself : bytes.toList.set i bytes[i] = bytes.toList := List.set_getElem_self hi
  rw [Vector.toList_set, ← hvalid, ← hself, List.set_set, checkCrc_set_inj hi] at hmutated
  exact hbit k hk (by simpa using hmutated)

section SearchCommands

/-! ### The control points of a search (R173 to R184) -/

variable {s : State}

/-- What the step at a control point does where no `AwaitIdle` holds it (R184). -/
def SearchPoint.act : SearchPoint → State → State
  | .busReset, s => (s.toState .resetPulse).atSearch .presence
  | .presence, s => s.testPresence
  | .sendCmd i, s => s.sendCmdBit i
  | .beginPass, s => s.beginSearchPass
  | .probe, s => (s.armSlots 0x03 2).atSearch .readProbe
  | .readProbe, s => s.takeProbe
  | .choose, s => s.chooseDirection
  | .record, s => (s.setIdBit s.pos s.dir).atSearch .writeBack
  | .writeBack, s => (s.armSlots (boolByte s.dir) 1).atSearch .advance
  | .advance, s => s.advancePos
  | .endPass, s => s.finishPass
  | .crcCheck, s => s.checkIdentifier
  | .notFound, s => s.ret 0x00
  | .found, s => s.ret 0x01

theorem searchStep_eq (p : SearchPoint) (s : State) :
    searchStep p s = if p.gated then whenIdle s p.act else .next (p.act s) := by
  cases p <;> rfl

theorem exec_search_at {p : SearchPoint} (hp : s.phase = .search p) :
    exec .search s = if p.gated then whenIdle s p.act else .next (p.act s) := by
  rw [← searchStep_eq]
  simp only [exec, execSearch, hp]

theorem exec_search_taken {p : SearchPoint} (hp : s.phase = .search p) (h : p.gated = false ∨ s.state = .idle) :
    exec .search s = .next (p.act s) := by
  rw [exec_search_at hp]
  rcases h with hg | hs
  · rw [hg]; rfl
  · rw [whenIdle_idle hs, ite_self]

theorem exec_search_held {p : SearchPoint} (hp : s.phase = .search p) (hg : p.gated = true) (hs : s.state ≠ .idle) :
    exec .search s = .next s := by
  rw [exec_search_at hp, if_pos hg, whenIdle_held hs]

theorem boolByte_getLsbD (x : Byte) (i : Nat) :
    boolByte (x.getLsbD i) = BitVec.ofNat 8 (x.toNat / 2 ^ i % 2) := by
  rw [BitVec.getLsbD, Nat.testBit_eq_decide_div_mod_eq]
  rcases Nat.mod_two_eq_zero_or_one (x.toNat / 2 ^ i) with h | h <;> rw [h] <;> rfl

theorem probeFirst_eq (s : State) : s.probeFirst = decide (s.shiftRegister.toNat / 64 % 2 = 1) :=
  Nat.testBit_eq_decide_div_mod_eq

theorem sampledBit_eq (s : State) : s.sampledBit = decide (s.shiftRegister.toNat / 128 = 1) := by
  unfold State.sampledBit; generalize s.shiftRegister = sr; revert sr; decide

theorem testPresence_present (h : s.presence = true) : s.testPresence = s.atSearch (.sendCmd 0) := if_pos h

theorem testPresence_absent (h : ¬ s.presence = true) : s.testPresence = s.abortSearch := if_neg h

/-- Code 11: no device answers (R177). -/
theorem chooseDirection_noResponse (hid : s.idBit = true) (hcmp : s.cmpBit = true) :
    s.chooseDirection = s.abortSearch := by
  simp [State.chooseDirection, State.noResponse, hid, hcmp]

/-- Codes 01 and 10: the devices agree (R178). -/
theorem chooseDirection_agreed (h : s.idBit ≠ s.cmpBit) :
    s.chooseDirection = { s with dir := s.idBit }.atSearch .record := by
  have hsome : s.noResponse = false := Bool.eq_false_iff.mpr fun hno => by
    obtain ⟨hid, hcmp⟩ := Bool.and_eq_true_iff.mp hno
    exact h (hid.trans hcmp.symm)
  simp [State.chooseDirection, hsome, State.agreed, h]

/-- Code 00: a discrepancy, where `branch` decides, and a 0 branch is recorded (R179, R180). -/
theorem chooseDirection_discrepancy (hid : s.idBit = false) (hcmp : s.cmpBit = false) :
    s.chooseDirection = { if s.branch then s else s.recordZero with dir := s.branch }.atSearch .record := by
  cases hb : s.branch <;> simp [State.chooseDirection, State.noResponse, State.agreed, hid, hcmp, hb]

/-- R179, by where the position stands to the last discrepancy. -/
theorem branch_spec (s : State) :
    (s.pos.toNat = s.lastDiscrepancy.toNat → s.branch = true)
      ∧ (s.pos.toNat > s.lastDiscrepancy.toNat → s.branch = false)
      ∧ (s.pos.toNat < s.lastDiscrepancy.toNat → s.branch = s.getIdBit s.pos) := by
  unfold State.branch
  refine ⟨fun h => if_pos h, fun h => ?past, fun h => ?before⟩
  case past => rw [if_neg (by omega), if_pos h]
  case before => rw [if_neg (by omega), if_neg (by omega)]

/-- The bits of `deviceId` after the write of one, numbered from 0 (R65). -/
theorem setIdBit_bits (s : State) {p : BitVec 7} (hp : 1 ≤ p.toNat) (hp64 : p.toNat ≤ 64) (v : Bool) (k : Nat) :
    ((s.setIdBit p v).idByte (k / 8)).getLsbD (k % 8)
      = if k + 1 = p.toNat then v else (s.idByte (k / 8)).getLsbD (k % 8) := by
  have hposition : k + 1 = p.toNat ↔ k / 8 = idByteIndex p ∧ k % 8 = idBitIndex p := by
    unfold idByteIndex idBitIndex; omega
  rw [s.idByte_setIdBit hp64]
  by_cases hbyte : k / 8 = idByteIndex p
  · rw [if_pos hbyte, getLsbD_withIdBit _ _ _ (Nat.mod_lt _ (by decide))]
    simp only [hposition, hbyte, true_and]
  · rw [if_neg hbyte, if_neg (fun h => hbyte (hposition.mp h).1)]

theorem advancePos_next (h : s.pos.toNat < 64) :
    s.advancePos = { s with pos := BitVec.ofNat 7 (s.pos.toNat + 1) }.atSearch .probe := by
  have hne : s.pos ≠ 64 := by rintro e; simp [e] at h
  have hnext : s.pos + 1 = BitVec.ofNat 7 (s.pos.toNat + 1) := by bv_omega
  rw [State.advancePos, if_neg hne, hnext]

theorem advancePos_last (h : s.pos.toNat = 64) : s.advancePos = s.atSearch .endPass :=
  if_pos (BitVec.eq_of_toNat_eq h)

theorem finishPass_eq (s : State) : s.finishPass = { s with
    lastDiscrepancy := s.lastZero, lastDeviceFlag := if s.lastZero = 0 then true else s.lastDeviceFlag
    phase := .search .crcCheck } := by
  by_cases h : s.lastZero = 0 <;> simp [State.finishPass, State.atSearch, State.atPhase, h, beq_eq_decide]

theorem checkIdentifier_valid (h : checkCrc s.deviceId.toList = 0x00) : s.checkIdentifier = s.atSearch .found :=
  if_pos h

theorem checkIdentifier_invalid (h : checkCrc s.deviceId.toList ≠ 0x00) : s.checkIdentifier = s.abortSearch :=
  if_neg h

end SearchCommands

/-- Settles O36: SRCHCLR in each of its two steps. -/
theorem srchclrCommand : Obligations.SrchclrCommand := by
  intro s
  refine ⟨fun hp => ?clears, fun hp => ?returns⟩
  case clears => simp only [exec, execSrchclr, hp]; rfl
  case returns => simp only [exec, execSrchclr, hp]; rfl

/-- Settles O37: the first step of SEARCH tests the flag and nothing else. -/
theorem searchEntry : Obligations.SearchEntry := by
  intro s hp
  have hexec : exec .search s = if s.lastDeviceFlag then .next (s.ret 0x00) else .next (s.atSearch .busReset) := by
    simp only [exec, execSearch, hp]
  rw [hexec]
  exact ⟨fun hflag => if_pos hflag, fun hflag => if_neg (Bool.eq_false_iff.mp hflag)⟩

/-- Settles O38: the four gated points in `Idle`, then the one that waits for nothing. -/
theorem searchStartsThePass : Obligations.SearchStartsThePass := by
  intro s
  refine ⟨fun hs => ⟨fun hp => exec_search_taken hp (.inr hs), fun hp h => ?present, fun hp h => ?absent,
    fun i hp => ?sendCmd⟩, fun hp => exec_search_taken hp (.inl rfl)⟩
  case present =>
    rw [exec_search_taken hp (.inr hs), SearchPoint.act, testPresence_present ((presence_iff s).mpr h)]
    rfl
  case absent =>
    rw [exec_search_taken hp (.inr hs), SearchPoint.act,
      testPresence_absent (mt (presence_iff s).mp (Nat.not_lt.mpr h))]
    rfl
  case sendCmd =>
    rw [← boolByte_getLsbD]
    exact exec_search_taken hp (.inr hs)

/-- Settles O39: both steps are gated, and the two bits stand where two slots of a read leave them (R89). -/
theorem searchProbesThePosition : Obligations.SearchProbesThePosition := by
  intro s hs
  rw [← probeFirst_eq, ← sampledBit_eq]
  exact ⟨fun hp => exec_search_taken hp (.inr hs), fun hp => exec_search_taken hp (.inr hs)⟩

/-- Settles O40, by the probe code; at a discrepancy the direction is `branch`. -/
theorem searchChoosesByTheProbeCode : Obligations.SearchChoosesByTheProbeCode := by
  intro s hp
  rw [exec_search_taken hp (.inl rfl), SearchPoint.act]
  refine ⟨fun hid hcmp => ?noResponse, fun h => ?agreed,
    fun hid hcmp => ⟨s.branch, ?discrepancy, branch_spec s⟩⟩
  case noResponse => rw [chooseDirection_noResponse hid hcmp]; rfl
  case agreed => rw [chooseDirection_agreed h]; rfl
  case discrepancy =>
    rw [chooseDirection_discrepancy hid hcmp]
    cases s.branch with
    | false => simp [State.recordZero, State.atSearch, State.atPhase]
    | true => simp [State.atSearch, State.atPhase]

/-- Settles O41: the record is `SetIdBit`, the write back is gated, and the advance tests the position. -/
theorem searchRecordsAndWritesBack : Obligations.SearchRecordsAndWritesBack := by
  intro s hpos hpos64
  refine ⟨fun hp => ⟨(s.setIdBit s.pos s.dir).deviceId, exec_search_taken hp (.inl rfl), fun k _ => ?bits⟩,
    fun hp hs => exec_search_taken hp (.inr hs), fun hp h => ?next, fun hp h => ?last⟩
  case bits => exact setIdBit_bits s hpos hpos64 s.dir k
  case next => rw [exec_search_taken hp (.inl rfl), SearchPoint.act, advancePos_next h]; rfl
  case last => rw [exec_search_taken hp (.inl rfl), SearchPoint.act, advancePos_last h]; rfl

/-- Settles O42: the end of the pass, both outcomes of the check, and the two returns. -/
theorem searchEndsThePass : Obligations.SearchEndsThePass := by
  intro s
  refine ⟨fun hp => ?endPass, fun hp h => ?valid, fun hp h => ?invalid, fun hp => exec_search_taken hp (.inl rfl),
    fun hp => exec_search_taken hp (.inl rfl)⟩
  case endPass => rw [exec_search_taken hp (.inl rfl), SearchPoint.act, finishPass_eq]
  case valid => rw [exec_search_taken hp (.inl rfl), SearchPoint.act, checkIdentifier_valid h]; rfl
  case invalid => rw [exec_search_taken hp (.inl rfl), SearchPoint.act, checkIdentifier_invalid h]; rfl

/-- Settles O43: every one of these points is a gated step. -/
theorem searchIsHeldAtItsGates : Obligations.SearchIsHeldAtItsGates :=
  fun _ _ hp hg hs => exec_search_held hp hg hs

section FrontEndFirst

/-! ### Runs in which the front end steps whenever it can (log entry 1) -/

variable {s t : State}

/-- The state with the next `n` turns the front end's, after `c` turns taken. -/
def State.withTurns (s : State) (n c : Nat) : State :=
  { s with schedule := List.replicate n .frontEnd, turnCount := c }

/-- One step in which the front end has the turn; `schedule` and `turnCount` aside, it leads from `s` to `t`. -/
def FrontEndFirst (s t : State) : Prop :=
  ∀ n c, step (s.withTurns (n + 1) c) = .next (t.withTurns n (c + 1))

/-- Any number of such steps. -/
abbrev Reaches : State → State → Prop := Relation.ReflTransGen FrontEndFirst

/-- Such a run is a run of the machine under a schedule of the front end's turns. -/
theorem steps_of_reaches (h : Reaches s t) (c : Nat) :
    ∃ n c', steps n (s.withTurns n c) = .next (t.withTurns 0 c') := by
  induction h using Relation.ReflTransGen.head_induction_on generalizing c with
  | refl => exact ⟨0, c, rfl⟩
  | head hstep _ ih =>
    obtain ⟨n, c', e⟩ := ih (c + 1)
    exact ⟨n + 1, c', (steps_succ (hstep n c) n).trans e⟩

theorem afterSample_withTurns (s : State) (n c : Nat) :
    (s.withTurns n c).afterSample = s.afterSample.withTurns n c := by
  cases h : s.lineDrive <;> simp [State.afterSample, State.withTurns, h]

theorem countEvent_withTurns {done : State → State} {n c : Nat}
    (hdone : ∀ u : State, done (u.withTurns n c) = (done u).withTurns n c) (e : countEvent s done = .next t) :
    countEvent (s.withTurns n c) done = .next (t.withTurns n c) := by
  by_cases h : s.reloadPeriod = 1
  · cases (countEvent_one h done).symm.trans e
    rw [countEvent_one (s := s.withTurns n c) h]
    exact congrArg (fun u : State => Host.Outcome.next ((u.setTimerTo s.config.tIdle).toState .idle))
      (hdone { s with reloadPeriod := 0 })
  · cases (countEvent_ne_one h done).symm.trans e
    exact countEvent_ne_one (s := s.withTurns n c) h done

/-- No event reads the turns. -/
theorem event_withTurns (e : event s = .next t) (n c : Nat) :
    event (s.withTurns n c) = .next (t.withTurns n c) := by
  have hstate : (s.withTurns n c).state = s.state := rfl
  rw [event_eq] at e ⊢
  rw [hstate]
  cases hs : s.state <;> rw [hs] at e
  case startBit =>
    by_cases hbit : s.shiftRegister.toNat % 2 = 1
    · cases (execStStartBit_one hbit).symm.trans e
      exact execStStartBit_one (s := s.withTurns n c) hbit
    · cases (execStStartBit_zero hbit).symm.trans e
      exact execStStartBit_zero (s := s.withTurns n c) hbit
  case sample =>
    cases e
    exact congrArg
      (fun u : State => Host.Outcome.next ((u.shiftInBit s.sampleBit).setTimerTo s.config.tSlotTail).endSlot)
      (afterSample_withTurns s n c)
  case resetSample =>
    cases e
    exact congrArg (fun u : State =>
        Host.Outcome.next (((u.shiftInBit s.sampleBit).setTimerTo s.config.tRstRec).toState .resetRecover))
      (afterSample_withTurns s n c)
  case delaying => exact countEvent_withTurns (done := id) (fun _ => rfl) e
  case strongPullupDelay => exact countEvent_withTurns (done := fun s => s.setLine .released) (fun _ => rfl) e
  all_goals cases e; rfl

/-- The front end is inside a SEARCH. -/
def OutsideEngine.InSearch (o : OutsideEngine) : Prop :=
  o.initialised = true ∧ o.cmdBusy = true ∧ o.cmdWord = 0x0000000B

/-- It is so at a point that begins with `AwaitIdle`. -/
def OutsideEngine.AtGate (o : OutsideEngine) : Prop := o.InSearch ∧ gatedAt .search o.phase = true

theorem OutsideEngine.InSearch.atGate {p : SearchPoint} (h : s.outsideEngine.InSearch) (hp : s.phase = .search p)
    (hg : p.gated = true) : s.outsideEngine.AtGate :=
  ⟨h, (congrArg (gatedAt .search) hp).trans hg⟩

theorem OutsideEngine.InSearch.decodes (h : s.outsideEngine.InSearch) : decodeCmd s.cmdWord = .ok .search := by
  obtain ⟨-, -, hword⟩ := h
  exact (congrArg decodeCmd hword).trans rfl

/-- A front end that is not held takes its step. -/
theorem FrontEndFirst.exec (h : s.outsideEngine.InSearch) (hg : gatedAt .search s.phase = false ∨ s.state = .idle)
    (e : ∀ n c, exec .search (s.withTurns n c) = .next (t.withTurns n c)) : FrontEndFirst s t := by
  intro n c
  have hd := h.decodes
  obtain ⟨hinit, hbusy, -⟩ := h
  obtain ⟨hstep, -⟩ := stepContinuesTheAcceptedCommand (s.withTurns (n + 1) c) .search hinit hbusy hd hg
  exact (hstep rfl).trans (e n (c + 1))

theorem ite_withTurns (b : Prop) [Decidable b] (u v : State) (n c : Nat) :
    (if b then u else v).withTurns n c = if b then u.withTurns n c else v.withTurns n c :=
  apply_ite (State.withTurns · n c) b u v

/-- No step of a SEARCH reads the turns. -/
theorem act_withTurns (p : SearchPoint) (s : State) (n c : Nat) :
    p.act (s.withTurns n c) = (p.act s).withTurns n c := by
  cases p with
  | presence | choose | advance | crcCheck =>
    simp only [SearchPoint.act, State.testPresence, State.chooseDirection, State.advancePos, State.checkIdentifier,
      ite_withTurns]
    rfl
  | _ => rfl

/-- The same for a step of a running SEARCH. -/
theorem FrontEndFirst.act {p : SearchPoint} (h : s.outsideEngine.InSearch) (hp : s.phase = .search p)
    (hg : p.gated = false ∨ s.state = .idle) (e : p.act s = t) : FrontEndFirst s t := by
  subst e
  exact .exec h (hp ▸ hg) fun n c => act_withTurns p s n c ▸ exec_search_taken (s := s.withTurns n c) hp hg

/-- A held front end leaves the turn to the engine. -/
theorem FrontEndFirst.event (e : event s = .next t) (hs : s.state ≠ .idle) (h : s.outsideEngine.AtGate) :
    FrontEndFirst s t := by
  intro n c
  obtain ⟨hsearch, hg⟩ := h
  have hd := hsearch.decodes
  obtain ⟨hinit, hbusy, -⟩ := hsearch
  have hrun : s.running = true := Bool.and_eq_true_iff.mpr ⟨hinit, hbusy⟩
  have hready : (s.withTurns (n + 1) c).frontEndReady = false := frontEndReady_of_held hrun hd hg hs
  exact (step_of_not_ready hready nofun).trans (event_withTurns e n (c + 1))

end FrontEndFirst

section HeldSlots

/-! ### The engine's operations under a held SEARCH -/

variable {s : State}

/-- A bus reset leaves the presence sample in bit 7 (R110). -/
theorem OutsideEngine.AtGate.busReset (h : s.outsideEngine.AtGate) {b : Bool} {rest : List Bool}
    (hin : s.lineInput = b :: rest) :
    ∃ t, Reaches (s.toState .resetPulse) t ∧ t.outsideEngine = s.outsideEngine ∧ t.state = .idle
      ∧ t.lineInput = rest ∧ t.shiftRegister = shiftIn b s.shiftRegister := by
  have hlevel : s.lineLevel = b := by rw [lineLevel_eq, hin]; rfl
  exact ⟨_, .head (.event rfl nofun h) (.head (.event rfl nofun h) (.head (.event rfl nofun h)
    (.single (.event rfl nofun h)))), rfl, rfl, congrArg List.tail hin, congrArg (shiftIn · s.shiftRegister) hlevel⟩

/-- One slot, as in `events_slot`, with the turns. -/
theorem OutsideEngine.AtGate.slot (h : s.outsideEngine.AtGate) {level : Bool} {rest : List Bool}
    (hs : s.state = .startBit) (hlow : s.outBit = false → level = false)
    (hin : s.lineInput = (if s.outBit then [level] else []) ++ rest) :
    ∃ t, Reaches s t ∧ t.outsideEngine = s.outsideEngine
      ∧ t.state = (if s.bitsRemaining.toNat = 1 then .idle else .startBit)
      ∧ t.shiftRegister = shiftIn level s.shiftRegister ∧ t.bitsRemaining = s.bitsRemaining - 1
      ∧ t.lineInput = rest := by
  have hbusy : s.state ≠ .idle := by rw [hs]; nofun
  cases hout : s.outBit with
  | true =>
    rw [hout] at hin
    have hlevel : s.lineLevel = level := by rw [lineLevel_eq, hin]; rfl
    have hbit := event_startBit_one hs ((outBit_iff s).mp hout)
    exact ⟨_, .head (.event hbit hbusy h) (.head (.event (event_readWait rfl) nofun h)
        (.single (.event (event_sample rfl) nofun h))), rfl,
      endSlot_state_eq _, congrArg (shiftIn · s.shiftRegister) hlevel, rfl, congrArg List.tail hin⟩
  | false =>
    rw [hout] at hin
    rw [hlow hout]
    have hbit := event_startBit_zero hs (mt (outBit_iff s).mpr (Bool.eq_false_iff.mp hout))
    exact ⟨_, .head (.event hbit hbusy h) (.single (.event (event_release rfl) nofun h)), rfl, endSlot_state_eq _,
      rfl, rfl, hin⟩

/-- The samples of a write slot that no device pulls low. -/
def writeSamples (b : Bool) : List Bool := if b then [true] else []

/-- One slot is armed that writes `b`; after its samples the environment gives `rest`. -/
structure State.Writing (s : State) (b : Bool) (rest : List Bool) : Prop where
  state : s.state = .startBit
  register : s.shiftRegister = boolByte b
  count : s.bitsRemaining = 1
  input : s.lineInput = writeSamples b ++ rest

/-- The held front end waits the slot out. -/
theorem State.Writing.reaches {b : Bool} {rest : List Bool} (hw : s.Writing b rest) (h : s.outsideEngine.AtGate) :
    ∃ t, Reaches s t ∧ t.outsideEngine = s.outsideEngine ∧ t.state = .idle ∧ t.lineInput = rest := by
  have hout : s.outBit = b := by rw [State.outBit, hw.register]; cases b <;> rfl
  obtain ⟨t, ht, tout, tstate, -, -, tin⟩ := h.slot (level := b) (rest := rest) hw.state (by rw [hout]; exact id)
    (by rw [hw.input, hout]; cases b <;> rfl)
  exact ⟨t, ht, tout, by rw [tstate, hw.count]; rfl, tin⟩

/-- The two slots of a probe leave the first sample in bit 6 and the second in bit 7 (R89). -/
theorem OutsideEngine.AtGate.probe (h : s.outsideEngine.AtGate) {first second : Bool} {rest : List Bool}
    (hs : s.state = .startBit) (hsr : s.shiftRegister = 0x03) (hn : s.bitsRemaining = 2)
    (hin : s.lineInput = first :: second :: rest) :
    ∃ t, Reaches s t ∧ t.outsideEngine = s.outsideEngine ∧ t.state = .idle ∧ t.lineInput = rest
      ∧ t.probeFirst = first ∧ t.sampledBit = second := by
  have hout : s.outBit = true := by rw [State.outBit, hsr]; rfl
  obtain ⟨u, hu, uout, ustate, usr, un, uin⟩ := h.slot (level := first) (rest := second :: rest) hs
    (by rw [hout]; nofun) (by rw [hin, hout]; rfl)
  have uone : u.outBit = true := by rw [State.outBit, usr, hsr]; cases first <;> rfl
  obtain ⟨t, ht, tout, tstate, tsr, -, tin⟩ := OutsideEngine.AtGate.slot (level := second) (rest := rest)
    (by rw [uout]; exact h) (by rw [ustate, hn]; rfl) (by rw [uone]; nofun) (by rw [uin, uone]; rfl)
  refine ⟨t, hu.trans ht, tout.trans uout, by rw [tstate, un, hn]; rfl, tin, ?_, ?_⟩
  · rw [State.probeFirst, tsr, usr, shiftIn_bit _ _ 6 (by decide)]
    exact shiftIn_bit first _ 7 (by decide)
  · rw [State.sampledBit, tsr]
    exact shiftIn_bit second _ 7 (by decide)

end HeldSlots

section OneDevice

/-! ### The pass with one device on the bus (R175 to R183, R187) -/

variable {s : State}

/-- The bits of an identifier, numbered from 0. -/
def idBits (ids : Vector Byte 8) (k : Nat) : Bool := ((ids[k / 8]?).getD 0).getLsbD (k % 8)

theorem eq_of_idBits_eq {a b : Vector Byte 8} (h : ∀ k, k < 64 → idBits a k = idBits b k) : a = b := by
  refine Vector.ext fun i hi => BitVec.eq_of_getLsbD_eq fun j hj => ?_
  have hbyte : (8 * i + j) / 8 = i := by omega
  have hbit : (8 * i + j) % 8 = j := by omega
  simpa [idBits, hbyte, hbit, hi] using h (8 * i + j) (by omega)

/-- What the one device gives at a position: its bit, the complement, and nothing in the write slot (R176). -/
def positionSamples (b : Bool) : List Bool := [b, !b] ++ writeSamples b

/-- `SEARCH_CMD` from bit `i` on (R175): each bit waits for the slot of the one before it. -/
theorem command_reaches {cmd : Byte} {rest : List Bool} {n : Nat} {i : Fin 8} (hi : i.val + n = 7)
    (h : s.outsideEngine.InSearch) (hp : s.phase = .search (.sendCmd i)) (hs : s.state = .idle)
    (hcmd : s.config.searchCmd = cmd)
    (hin : s.lineInput = (List.range' i (n + 1)).flatMap (fun k => writeSamples (cmd.getLsbD k)) ++ rest) :
    ∃ t, Reaches s t ∧ t.Writing (cmd.getLsbD 7) rest
      ∧ t.outsideEngine = { s.outsideEngine with phase := .search .beginPass } := by
  have hsend {p : SearchPoint} (e : (if i.val = 7 then .beginPass else .sendCmd (i + 1)) = p) :
      FrontEndFirst s ((s.armSlots (boolByte (cmd.getLsbD i)) 1).atSearch p) :=
    .act h hp (.inr hs) (by rw [← e, ← hcmd]; rfl)
  rw [List.range'_succ, List.flatMap_cons, List.append_assoc] at hin
  induction n generalizing s i with
  | zero =>
    obtain rfl : i = 7 := Fin.ext hi
    exact ⟨_, .single (hsend rfl), ⟨rfl, rfl, rfl, hin⟩, rfl⟩
  | succ n ih =>
    have hnext : (i + 1).val = i.val + 1 := Fin.val_add_one_of_lt (Fin.lt_def.mpr (by simp; omega))
    have hw : State.Writing ((s.armSlots (boolByte (cmd.getLsbD i)) 1).atSearch (.sendCmd (i + 1))) (cmd.getLsbD i)
      ((List.range' (i.val + 1) (n + 1)).flatMap (fun k => writeSamples (cmd.getLsbD k)) ++ rest) :=
        ⟨rfl, rfl, rfl, hin⟩
    obtain ⟨u, hu, uout, uidle, uin⟩ := hw.reaches (OutsideEngine.InSearch.atGate h rfl rfl)
    have hsearch : u.outsideEngine.InSearch := by rw [uout]; exact h
    have hphase : u.phase = .search (.sendCmd (i + 1)) := congrArg OutsideEngine.phase uout
    have hconfig : u.config.searchCmd = cmd := (congrArg (fun o => o.config.searchCmd) uout).trans hcmd
    rw [List.range'_succ, List.flatMap_cons, List.append_assoc, ← hnext] at uin
    obtain ⟨t, ht, tw, tout⟩ := ih (by omega) hsearch hphase uidle hconfig uin
      (fun e => .act hsearch hphase (.inr uidle) (by rw [← e, ← hconfig]; rfl))
    exact ⟨t, .head (hsend (if_neg (by omega))) (hu.trans ht), tw, by rw [tout, uout]; rfl⟩

/-- The probe's two bits taken, the first as the direction. -/
def State.takeDirection (s : State) : State :=
  { s with idBit := s.probeFirst, cmpBit := s.sampledBit, dir := s.probeFirst }

/-- From the end of a probe that shows no discrepancy to the write back of its direction. -/
theorem writeBack_reaches (h : s.outsideEngine.InSearch) (hp : s.phase = .search .readProbe)
    (hs : s.state = .idle) (hne : s.probeFirst ≠ s.sampledBit) :
    Reaches s (((s.takeDirection.setIdBit s.pos s.probeFirst).armSlots (boolByte s.probeFirst) 1).atSearch
      .advance) := by
  have htake : FrontEndFirst s s.takeProbe := .act h hp (.inr hs) rfl
  have hchoose : FrontEndFirst s.takeProbe (s.takeDirection.atSearch .record) :=
    .act (p := .choose) h rfl (.inl rfl) (chooseDirection_agreed hne)
  have hrecord : FrontEndFirst (s.takeDirection.atSearch .record)
      ((s.takeDirection.setIdBit s.pos s.probeFirst).atSearch .writeBack) :=
    .act (p := .record) h rfl (.inl rfl) rfl
  exact .head htake (.head hchoose (.head hrecord (.single (.act (p := .writeBack) h rfl (.inr hs) rfl))))

/-- One position: the direction is the device's bit, which is recorded and armed for the write back. -/
theorem position_reaches {bit : Nat → Bool} {rest : List Bool} {k : Nat} {w : Bool} (hk : k < 64)
    (h : s.outsideEngine.InSearch) (hp : s.phase = .search .probe) (hpos : s.pos.toNat = k + 1)
    (hdone : ∀ j, j < k → idBits s.deviceId j = bit j) (hw : s.Writing w (positionSamples (bit k) ++ rest)) :
    ∃ t ids, Reaches s t ∧ t.Writing (bit k) rest
      ∧ t.outsideEngine = { s.outsideEngine with
          deviceId := ids, idBit := bit k, cmpBit := !bit k, dir := bit k, phase := .search .advance }
      ∧ ∀ j, j < k + 1 → idBits ids j = bit j := by
  obtain ⟨u, hu, uout, uidle, uin⟩ := hw.reaches (h.atGate hp rfl)
  have hsearch : u.outsideEngine.InSearch := by rw [uout]; exact h
  have harm := FrontEndFirst.act hsearch ((congrArg OutsideEngine.phase uout).trans hp) (.inr uidle) rfl
  obtain ⟨v, hv, vout, vidle, vin, hfirst, hsecond⟩ := OutsideEngine.AtGate.probe
    (s := SearchPoint.probe.act u) (OutsideEngine.InSearch.atGate hsearch rfl rfl) rfl rfl rfl uin
  have vframe : v.outsideEngine = { s.outsideEngine with phase := .search .readProbe } := by rw [vout, ← uout]; rfl
  have vid : v.deviceId = s.deviceId := congrArg OutsideEngine.deviceId vframe
  have vpos : v.pos.toNat = k + 1 := (congrArg (fun o => o.pos.toNat) vframe).trans hpos
  have hback := writeBack_reaches (s := v) (by rw [vframe]; exact h) (congrArg OutsideEngine.phase vframe) vidle
    (by rw [hfirst, hsecond]; exact (Bool.not_ne_self _).symm)
  refine ⟨_, (v.setIdBit v.pos v.probeFirst).deviceId, hu.trans (.head harm (hv.trans hback)),
    ⟨rfl, congrArg boolByte hfirst, rfl, vin⟩, ?frame, fun j hj => ?bits⟩
  case frame =>
    rw [← hsecond, ← hfirst]
    exact congrArg (fun o : OutsideEngine => { o with
      deviceId := (v.setIdBit v.pos v.probeFirst).deviceId
      idBit := v.probeFirst, cmpBit := v.sampledBit, dir := v.probeFirst, phase := .search .advance }) vframe
  case bits =>
    refine (setIdBit_bits v (by omega) (by omega) v.probeFirst j).trans ?_
    by_cases hlast : j = k
    · rw [if_pos (by omega), hfirst, hlast]
    · rw [if_neg (by omega)]
      exact (congrArg (idBits · j) vid).trans (hdone j (by omega))

/-- The positions from `k + 1` on to 64: afterwards `deviceId` holds the device's bits at all of them. -/
theorem positions_reach {bit : Nat → Bool} {rest : List Bool} {n k : Nat} {w : Bool} (hk : k + n = 63)
    (h : s.outsideEngine.InSearch) (hp : s.phase = .search .probe) (hpos : s.pos.toNat = k + 1)
    (hdone : ∀ j, j < k → idBits s.deviceId j = bit j)
    (hw : s.Writing w ((List.range' k (n + 1)).flatMap (fun k => positionSamples (bit k)) ++ rest)) :
    ∃ t ids p b, Reaches s t
      ∧ t.outsideEngine = { s.outsideEngine with
          deviceId := ids, pos := p, idBit := b, cmpBit := !b, dir := b, phase := .search .endPass }
      ∧ ∀ j, j < 64 → idBits ids j = bit j := by
  induction n generalizing s k w with
  | zero =>
    obtain rfl : k = 63 := hk
    rw [List.range'_succ, List.flatMap_cons, List.append_assoc] at hw
    obtain ⟨t, ids, ht, -, tout, hids⟩ := position_reaches (by omega) h hp hpos hdone hw
    have tpos : t.pos.toNat = 64 := (congrArg (fun o => o.pos.toNat) tout).trans hpos
    have hlast : FrontEndFirst t (t.atSearch .endPass) :=
      .act (p := .advance) (by rw [tout]; exact h) (congrArg OutsideEngine.phase tout) (.inl rfl)
        (advancePos_last tpos)
    exact ⟨_, ids, s.pos, bit 63, ht.tail hlast,
      congrArg (fun o : OutsideEngine => { o with phase := .search .endPass }) tout, hids⟩
  | succ n ih =>
    rw [List.range'_succ, List.flatMap_cons, List.append_assoc] at hw
    obtain ⟨t, ids, ht, tw, tout, hids⟩ := position_reaches (by omega) h hp hpos hdone hw
    have tsearch : t.outsideEngine.InSearch := by rw [tout]; exact h
    have tpos : t.pos.toNat = k + 1 := (congrArg (fun o => o.pos.toNat) tout).trans hpos
    have tid : t.deviceId = ids := congrArg OutsideEngine.deviceId tout
    have hnext : FrontEndFirst t ({ t with pos := BitVec.ofNat 7 (t.pos.toNat + 1) }.atSearch .probe) :=
      .act (p := .advance) tsearch (congrArg OutsideEngine.phase tout) (.inl rfl) (advancePos_next (by omega))
    obtain ⟨u, ids', p, b, hu, uout, hids'⟩ := ih
      (s := { t with pos := BitVec.ofNat 7 (t.pos.toNat + 1) }.atSearch .probe) (k := k + 1) (w := bit k) (by omega)
      tsearch rfl ((BitVec.toNat_ofNat _ _).trans (by omega)) (by rw [← tid] at hids; exact hids)
      ⟨tw.state, tw.register, tw.count, tw.input⟩
    refine ⟨u, ids', p, b, (ht.tail hnext).trans hu, uout.trans ?frame, hids'⟩
    case frame => exact congrArg (fun o : OutsideEngine => { o with
      deviceId := ids', pos := p, idBit := b, cmpBit := !b, dir := b, phase := .search .endPass }) tout

/-- The start of a pass, up to the first probe; the last bit of `SEARCH_CMD` is still on its way (R174, R175). -/
theorem passStart_reaches {rest : List Bool} (h : s.outsideEngine.InSearch) (hp : s.phase = .start)
    (hs : s.state = .idle) (hflag : s.lastDeviceFlag = false)
    (hin : s.lineInput
      = false :: ((List.range 8).flatMap (fun k => writeSamples (s.config.searchCmd.getLsbD k)) ++ rest)) :
    ∃ t w, Reaches s t ∧ t.Writing w rest
      ∧ t.outsideEngine = { s.outsideEngine with lastZero := 0, pos := 1, phase := .search .probe } := by
  have hentry : FrontEndFirst s (s.atSearch .busReset) := by
    refine .exec h (.inr hs) fun n c => ?_
    obtain ⟨-, hbegins⟩ := searchEntry (s.withTurns n c) hp
    exact hbegins hflag
  have hreset : FrontEndFirst (s.atSearch .busReset) ((s.atSearch .presence).toState .resetPulse) :=
    .act (p := .busReset) h rfl (.inr hs) rfl
  obtain ⟨u, hu, uout, uidle, uin, usr⟩ := OutsideEngine.AtGate.busReset (s := s.atSearch .presence)
    (OutsideEngine.InSearch.atGate h rfl rfl) hin
  have usearch : u.outsideEngine.InSearch := by rw [uout]; exact h
  have hpresent : u.presence = true := by
    rw [State.presence, usr, shiftIn_bit _ _ 7 (by decide)]
    rfl
  have hpresence : FrontEndFirst u (u.atSearch (.sendCmd 0)) :=
    .act (p := .presence) usearch (congrArg OutsideEngine.phase uout) (.inr uidle) (testPresence_present hpresent)
  have hcmd : u.config = s.config := congrArg OutsideEngine.config uout
  obtain ⟨t, ht, tw, tout⟩ := command_reaches (s := u.atSearch (.sendCmd 0)) (i := 0) (n := 7) rfl usearch rfl uidle
    (congrArg Config.searchCmd hcmd) uin
  have hbegin : FrontEndFirst t t.beginSearchPass :=
    .act (p := .beginPass) (by rw [tout]; exact usearch) (congrArg OutsideEngine.phase tout) (.inl rfl) rfl
  refine ⟨_, _, .head hentry (.head hreset (hu.trans (.head hpresence (ht.tail hbegin)))),
    ⟨tw.state, tw.register, tw.count, tw.input⟩, ?frame⟩
  case frame =>
    have tframe : t.outsideEngine = { s.outsideEngine with phase := .search .beginPass } := by
      rw [tout]; exact congrArg (fun o : OutsideEngine => { o with phase := .search .beginPass }) uout
    exact congrArg (fun o : OutsideEngine => { o with lastZero := 0, pos := 1, phase := .search .probe }) tframe

/-- The end of a pass without a discrepancy, whose identifier passes the check (R182, R183). -/
theorem passEnd_reaches (h : s.outsideEngine.InSearch) (hp : s.phase = .search .endPass) (hzero : s.lastZero = 0)
    (hcrc : checkCrc s.deviceId.toList = 0x00) :
    Reaches s ({ s with lastDiscrepancy := 0, lastDeviceFlag := true, phase := .search .found }.ret 0x01) := by
  have hend : FrontEndFirst s { s with lastDiscrepancy := 0, lastDeviceFlag := true, phase := .search .crcCheck } :=
    .act (p := .endPass) h hp (.inl rfl) ((finishPass_eq s).trans (by simp [hzero]))
  have hcheck : FrontEndFirst { s with lastDiscrepancy := 0, lastDeviceFlag := true, phase := .search .crcCheck }
      { s with lastDiscrepancy := 0, lastDeviceFlag := true, phase := .search .found } :=
    .act (p := .crcCheck) h rfl (.inl rfl) (checkIdentifier_valid hcrc)
  exact .head hend (.head hcheck (.single (.act (p := .found) h rfl (.inl rfl) rfl)))

/-- A run of samples 1, one for each 1 slot, as the samples of the write slots one after the other. -/
theorem replicate_length_filter (p : Nat → Bool) (l : List Nat) :
    List.replicate (l.filter p).length true = l.flatMap (fun k => writeSamples (p k)) := by
  induction l with
  | nil => rfl
  | cons k l ih => cases h : p k <;> simp [h, writeSamples, List.replicate_succ, ih]

end OneDevice

/-- Settles O60: the start of the pass, the 64 positions and the end, run in a row with the front end's turns. -/
theorem searchFindsTheOnlyDevice : Obligations.SearchFindsTheOnlyDevice := by
  intro s id rest bit ones hinit hbusy hword hp hs hflag hcrc hin
  have h : s.outsideEngine.InSearch := ⟨hinit, hbusy, hword⟩
  rw [replicate_length_filter] at hin
  obtain ⟨t, w, ht, tw, tout⟩ := passStart_reaches h hp hs hflag hin
  have tsearch : t.outsideEngine.InSearch := by rw [tout]; exact h
  have tpos : t.pos = 1 := congrArg OutsideEngine.pos tout
  obtain ⟨u, ids, p, b, hu, uout, hids⟩ := positions_reach (k := 0) (n := 63) (bit := bit) rfl tsearch
    (congrArg OutsideEngine.phase tout) (congrArg BitVec.toNat tpos) nofun tw
  obtain rfl : ids = id := eq_of_idBits_eq hids
  rw [tout] at uout
  have uid : u.deviceId = ids := congrArg OutsideEngine.deviceId uout
  have hend := passEnd_reaches (by rw [uout]; exact h) (congrArg OutsideEngine.phase uout)
    (congrArg OutsideEngine.lastZero uout) (by rw [uid]; exact hcrc)
  obtain ⟨n, c, hrun⟩ := steps_of_reaches (ht.trans (hu.trans hend)) s.turnCount
  exact ⟨n, _, hrun, rfl, rfl, uid, rfl, rfl, congrArg OutsideEngine.lastZero uout,
    congrArg OutsideEngine.lastFamilyDiscrepancy uout⟩

end Sys2Proof.Machine

/-! # Exceptions (60_exceptions.md)

The block has no fault (R200); what stops a step is a breach of the host contract (R219), and each breach is said
once: by the word the front end takes, or by INIT in flight. An arm and an `Idle` event that fall together commute
(R208), because the arm does not read the timer registers and the armed micro-step writes both. -/

namespace Sys2Proof.Machine

section ContractBreaches

/-! ### What can stop a step (R200, R219) -/

variable {s : State}

theorem running_eq_false_iff : s.running = false ↔ s.initialised = false ∨ s.cmdBusy = false :=
  Bool.and_eq_false_iff

theorem running_iff : s.running = true ↔ s.initialised = true ∧ s.cmdBusy = true := Bool.and_eq_true_iff

/-- INIT cancels no operation in flight after the first INIT or reset (R219 (b), log entry 17). -/
theorem execInit_inFlight (hinit : s.initialised = true) (hs : s.state ≠ .idle) :
    execInit s = .refused .initInFlight := by
  simp [execInit, hinit, State.isIdle, hs]

theorem execInit_free (h : s.initialised = false ∨ s.state = .idle) : execInit s = .next s.resetBlock := by
  rcases h with h | h <;> simp [execInit, h, State.isIdle]

theorem whenIdle_next (s : State) (f : State → State) : ∃ t, whenIdle s f = .next t := by
  unfold whenIdle; split <;> exact ⟨_, rfl⟩

theorem armAndReturn_next (s : State) (arm : State → State) : ∃ t, armAndReturn s arm = .next t := by
  unfold armAndReturn
  split
  · exact ⟨_, rfl⟩
  all_goals exact whenIdle_next s _

theorem armAndCollect_next (s : State) (arm : State → State) (value : State → Byte) :
    ∃ t, armAndCollect s arm value = .next t := by
  unfold armAndCollect
  split <;> exact whenIdle_next s _

theorem execSearch_next (s : State) : ∃ t, execSearch s = .next t := by
  unfold execSearch
  split
  · next p _ =>
    rw [searchStep_eq]
    split
    · exact whenIdle_next s _
    · exact ⟨_, rfl⟩
  all_goals split <;> exact ⟨_, rfl⟩

/-- A step of any command but INIT ends in a next state; the cases stand in the order of the opcodes (R82). -/
theorem exec_command_next {w : CmdWord} {i : Instr} (hd : decodeCmd w = .ok i) (hi : i ≠ .init) (s : State) :
    ∃ t, exec i s = .next t := by
  unfold decodeCmd at hd
  split at hd <;> cases hd
  · exact absurd rfl hi
  · exact armAndReturn_next s _
  · exact armAndCollect_next s _ _
  · exact armAndReturn_next s _
  · exact armAndCollect_next s _ _
  · exact armAndCollect_next s _ _
  · exact armAndReturn_next s _
  · exact armAndReturn_next s _
  · exact armAndReturn_next s _
  · exact armAndReturn_next s _
  · exact execSearch_next s
  · simp only [exec, execSrchclr]; split <;> exact ⟨_, rfl⟩
  · exact ⟨_, rfl⟩
  · exact ⟨_, rfl⟩
  · exact ⟨_, rfl⟩

/-- The front end's turn falls on the word `w`: the next one presented, when it is free, or the running command's. -/
def State.TakesWord (s : State) (w : CmdWord) : Prop :=
  (s.initialised = false ∨ s.cmdBusy = false) ∧ w ∈ s.hostCommands.head?
    ∨ s.initialised = true ∧ s.cmdBusy = true ∧ w = s.cmdWord

/-- `r` names the clause of R219 that forbids the word `w` here: (c), (a) or (b). -/
def State.Forbids (s : State) (w : CmdWord) (r : Refusal) : Prop :=
  (∃ op, decodeCmd w = .error (.reservedOpcode op) ∧ r = .reservedOpcode op)
    ∨ (s.initialised = false ∧ decodeCmd w ≠ .ok .init ∧ r = .beforeInit)
    ∨ (s.initialised = true ∧ decodeCmd w = .ok .init ∧ s.state ≠ .idle ∧ r = .initInFlight)

/-- An outcome of a step: a next state, or the refusal of the word the front end takes. -/
inductive NextOrForbidden (s : State) : Host.Outcome State Fault Refusal → Prop
  | next (t : State) : NextOrForbidden s (.next t)
  | forbidden (w : CmdWord) (r : Refusal) (htakes : s.TakesWord w) (hforbids : s.Forbids w r) :
      NextOrForbidden s (.refused r)

theorem NextOrForbidden.of_next {o : Host.Outcome State Fault Refusal} (h : ∃ t, o = .next t) :
    NextOrForbidden s o := by
  obtain ⟨t, rfl⟩ := h
  exact .next t

/-- The command that is taken runs on (`u` is the state it runs in), unless it is INIT in flight. -/
theorem NextOrForbidden.of_command {w : CmdWord} {i : Instr} {u : State} (hd : decodeCmd w = .ok i)
    (htakes : s.TakesWord w) (hinit : u.initialised = s.initialised) (hstate : u.state = s.state) :
    NextOrForbidden s (exec i u) := by
  by_cases hi : i = .init
  · subst hi
    by_cases hfree : u.initialised = false ∨ u.state = .idle
    · exact .of_next ⟨_, execInit_free hfree⟩
    · rw [not_or, Bool.not_eq_false] at hfree
      obtain ⟨huinit, hu⟩ := hfree
      have e : exec .init u = .refused .initInFlight := execInit_inFlight huinit hu
      exact e ▸ .forbidden w _ htakes (.inr (.inr ⟨hinit ▸ huinit, hd, hstate ▸ hu, rfl⟩))
  · exact .of_next (exec_command_next hd hi u)

/-- What the front end's turn fetches to run: the step of a command it takes, or an event. -/
theorem NextOrForbidden.of_run {i : Instr} {u : State} (hf : fetchCommand s = .run i u) :
    NextOrForbidden s (exec i u) := by
  obtain ⟨hrun, hd, rfl⟩ | ⟨hrun, w, ws, hcmds, hd, -, rfl⟩ | ⟨-, -, rfl, rfl⟩ := fetchCommand_run hf
  · obtain ⟨hinit, hbusy⟩ := running_iff.mp hrun
    exact .of_command hd (.inr ⟨hinit, hbusy, rfl⟩) rfl rfl
  · exact .of_command hd (.inl ⟨running_eq_false_iff.mp hrun, by simp [hcmds]⟩) rfl rfl
  · exact .of_next (event_next u)

/-- What the front end's turn stops at: a word that R219 (c) or (a) forbids. -/
theorem NextOrForbidden.of_stop {r : Refusal} (hf : fetchCommand s = .stop r) : NextOrForbidden s (.refused r) := by
  obtain ⟨hrun, op, hd, rfl⟩ | ⟨hrun, w, ws, hcmds, hstop⟩ := fetchCommand_stop hf
  · obtain ⟨hinit, hbusy⟩ := running_iff.mp hrun
    exact .forbidden s.cmdWord _ (.inr ⟨hinit, hbusy, rfl⟩) (.inl ⟨op, hd, rfl⟩)
  · refine .forbidden w r (.inl ⟨running_eq_false_iff.mp hrun, by simp [hcmds]⟩) ?_
    obtain hreserved | ⟨i, hd, hi, hinit, rfl⟩ := hstop
    · exact .inl hreserved
    · exact .inr (.inl ⟨hinit, by simpa [hd] using hi, rfl⟩)

/-- The turn taken is nothing that R219 looks at. -/
theorem NextOrForbidden.of_tick {o : Host.Outcome State Fault Refusal} (h : NextOrForbidden s.tick o) :
    NextOrForbidden s o := by
  cases h with
  | next t => exact .next t
  | forbidden w r htakes hforbids => exact .forbidden w r htakes hforbids

/-- A step ends in a next state or in the refusal of the word the front end takes: neither the reset input nor an
event can stop it. -/
theorem step_nextOrForbidden (s : State) : NextOrForbidden s (step s) := by
  obtain ⟨-, hstep⟩ | ⟨-, hstep⟩ | ⟨-, -, hstep⟩ := step_cases s <;> rw [hstep]
  · exact .next _
  · exact .of_next (event_next s.tick)
  · cases hf : fetchCommand s.tick with
    | run i u => exact .of_tick (.of_run hf)
    | settled u => exact .next u
    | stop r => exact .of_tick (.of_stop hf)

/-- A step that is refused had a turn that is neither the engine's nor the reset input's. -/
theorem schedule_of_refused {r : Refusal} (h : step s = .refused r) :
    s.schedule = [] ∨ s.schedule.head? = some .frontEnd := by
  rcases hturns : s.schedule with _ | ⟨turn, turns⟩
  · exact .inl rfl
  · cases turn with
    | frontEnd => exact .inr rfl
    | engine =>
      obtain ⟨t, e⟩ := event_next s.tick
      have hstep : step s = event s.tick := by rw [step, fetch_of_engineTurn hturns]; rfl
      cases (hstep.trans e).symm.trans h
    | resetInput =>
      have hstep : step s = .next s.tick.resetBlock := by simp [step, fetch, hturns]
      cases hstep.symm.trans h

end ContractBreaches

/-- Settles O10: a step ends in a next state or in the refusal of a forbidden word. -/
theorem stepStopsOnlyOnContractViolations : Obligations.StepStopsOnlyOnContractViolations := by
  intro s
  have hstep := step_nextOrForbidden s
  constructor
  · intro f hf
    cases hf ▸ hstep
  · intro r hr
    refine ⟨schedule_of_refused hr, ?_⟩
    cases hr ▸ hstep with
    | forbidden w _ htakes hforbids => exact ⟨w, htakes, hforbids⟩

section Presented

/-! ### The word presented to a free front end (R219) -/

variable {s : State} {w : CmdWord} {ws : List CmdWord}

theorem fetchCommand_of_free (hrun : s.running = false) (hcmds : s.hostCommands = w :: ws) :
    fetchCommand s = present w s := by
  simp [fetchCommand, hrun, hcmds]

theorem present_reserved {op : Byte} (hd : decodeCmd w = .error (.reservedOpcode op)) :
    present w s = .stop (.reservedOpcode op) := by
  simp [present, hd]

theorem present_beforeInit {i : Instr} (hd : decodeCmd w = .ok i) (hi : i ≠ .init) (hinit : s.initialised = false) :
    present w s = .stop .beforeInit := by
  simp [present, hd, hi, hinit]

/-- A free front end that has the turn refuses the word that `present` stops at. -/
theorem step_of_present_stop {turns : List Turn} {r : Refusal} (hrun : s.running = false)
    (hcmds : s.hostCommands = w :: ws) (hturns : s.schedule = .frontEnd :: turns)
    (hstop : present w s.tick = .stop r) : step s = .refused r := by
  have hready : s.frontEndReady = true := by simp [frontEndReady_of_free hrun, hcmds]
  have hf : fetchCommand s.tick = .stop r := (fetchCommand_of_free (s := s.tick) hrun hcmds).trans hstop
  simp [step, fetch, hturns, hready, State.turnToFrontEnd, hf]

end Presented

/-- Settles O9: the first two words are stopped when they are taken; INIT in flight is accepted and then refused. -/
theorem hostContractViolationsAreRefused : Obligations.HostContractViolationsAreRefused := by
  intro s w ws turns hcmds hturns hfree
  have hrun := running_eq_false_iff.mpr hfree
  refine ⟨fun op hd => ?reserved, fun i hd hi hinit => ?beforeInit, fun hd hinit hs => ?inFlight⟩
  case reserved => exact step_of_present_stop hrun hcmds hturns (present_reserved hd)
  case beforeInit => exact step_of_present_stop hrun hcmds hturns (present_beforeInit hd hi hinit)
  case inFlight =>
    have hbusy : s.cmdBusy = false := hfree.resolve_left (by simp [hinit])
    obtain ⟨hstep, -⟩ := stepRunsThePresentedCommand s w ws .init (.inl ⟨hinit, hbusy⟩) hcmds hd
    rw [hstep (by rw [hturns]; rfl)]
    exact execInit_inFlight hinit hs

section ArmAndEvent

/-! ### An arm and an `Idle` event (R70, R208) -/

variable {s t : State} {τ : TimerSetting}

theorem whenIdle_setTimerTo {f : State → State} (hf : f (s.setTimerTo τ) = (f s).setTimerTo τ)
    (e : whenIdle s f = .next t) : whenIdle (s.setTimerTo τ) f = .next (t.setTimerTo τ) := by
  obtain ⟨hs, ht⟩ | ⟨hs, ht⟩ := whenIdle_cases e <;> rw [ht]
  · exact (whenIdle_idle (s := s.setTimerTo τ) hs f).trans (congrArg Host.Outcome.next hf)
  · exact whenIdle_held (s := s.setTimerTo τ) hs f

theorem armAndReturn_setTimerTo {arm : State → State} (harm : arm (s.setTimerTo τ) = (arm s).setTimerTo τ)
    (e : armAndReturn s arm = .next t) : armAndReturn (s.setTimerTo τ) arm = .next (t.setTimerTo τ) := by
  have hstart := congrArg (State.atPhase · .finish) harm
  unfold armAndReturn at e ⊢
  rw [State.setTimerTo_phase]
  cases hp : s.phase <;> rw [hp] at e
  case finish => cases e; rfl
  all_goals exact whenIdle_setTimerTo hstart e

theorem armAndCollect_setTimerTo {arm : State → State} {value : State → Byte}
    (harm : arm (s.setTimerTo τ) = (arm s).setTimerTo τ) (hvalue : value (s.setTimerTo τ) = value s)
    (e : armAndCollect s arm value = .next t) :
    armAndCollect (s.setTimerTo τ) arm value = .next (t.setTimerTo τ) := by
  have hstart := congrArg (State.atPhase · .finish) harm
  unfold armAndCollect at e ⊢
  rw [State.setTimerTo_phase]
  cases hp : s.phase <;> rw [hp] at e
  case finish => exact whenIdle_setTimerTo (congrArg (s.setTimerTo τ).ret hvalue) e
  all_goals exact whenIdle_setTimerTo hstart e

theorem execSrchclr_setTimerTo (e : execSrchclr s = .next t) :
    execSrchclr (s.setTimerTo τ) = .next (t.setTimerTo τ) := by
  unfold execSrchclr at e ⊢
  rw [State.setTimerTo_phase]
  cases hp : s.phase <;> rw [hp] at e <;> cases e <;> rfl

theorem act_setTimerTo (p : SearchPoint) (s : State) (τ : TimerSetting) :
    p.act (s.setTimerTo τ) = (p.act s).setTimerTo τ := by
  cases p with
  | presence | choose | advance | crcCheck =>
    simp only [SearchPoint.act, State.testPresence, State.chooseDirection, State.advancePos, State.checkIdentifier,
      apply_ite (State.setTimerTo · τ)]
    rfl
  | _ => rfl

theorem execSearch_setTimerTo (e : execSearch s = .next t) :
    execSearch (s.setTimerTo τ) = .next (t.setTimerTo τ) := by
  unfold execSearch at e ⊢
  rw [State.setTimerTo_phase]
  cases hp : s.phase <;> rw [hp] at e
  case search p =>
    simp only [searchStep_eq] at e ⊢
    cases hg : p.gated <;> rw [hg] at e
    · cases e; exact congrArg Host.Outcome.next (act_setTimerTo p s τ)
    · exact whenIdle_setTimerTo (act_setTimerTo p s τ) e
  all_goals
    rw [State.setTimerTo_lastDeviceFlag]
    cases hf : s.lastDeviceFlag <;> rw [hf] at e <;> cases e <;> rfl

/-- No command but RDREG reads the timer registers, and none but INIT writes them; the cases stand in the order of
the opcodes (R82). -/
theorem exec_setTimerTo {w : CmdWord} {i : Instr} (hd : decodeCmd w = .ok i) (hinit : i ≠ .init)
    (hrdreg : ∀ a, i ≠ .rdreg a) (e : exec i s = .next t) : exec i (s.setTimerTo τ) = .next (t.setTimerTo τ) := by
  unfold decodeCmd at hd
  split at hd <;> cases hd
  · exact absurd rfl hinit
  · exact armAndReturn_setTimerTo rfl e
  · exact armAndCollect_setTimerTo rfl rfl e
  · exact armAndReturn_setTimerTo rfl e
  · exact armAndCollect_setTimerTo rfl rfl e
  · exact armAndCollect_setTimerTo rfl rfl e
  · exact armAndReturn_setTimerTo rfl e
  · exact armAndReturn_setTimerTo rfl e
  · exact armAndReturn_setTimerTo rfl e
  · exact armAndReturn_setTimerTo rfl e
  · exact execSearch_setTimerTo e
  · exact execSrchclr_setTimerTo e
  · cases e; rfl
  · cases e; rfl
  · exact absurd rfl (hrdreg _)

/-- The micro-step of a state just armed writes both timer registers and reads neither. -/
theorem event_setTimerTo_of_armed
    (h : s.state ∈ [BusState.startBit, .resetPulse, .delay1, .delay8, .delay128, .strongPullup]) :
    event (s.setTimerTo τ) = event s := by
  simp only [List.mem_cons, List.not_mem_nil, or_false] at h
  rw [event_eq, event_eq, State.setTimerTo_state]
  rcases h with h | h | h | h | h | h <;> rw [h] <;> rfl

theorem event_idle (hs : s.state = .idle) : event s = .next (s.setTimerTo s.config.tIdle) := by
  rw [event_eq, hs]; rfl

/-- Neither INIT nor RDREG arms the engine. -/
theorem ne_init_ne_rdreg_of_arms {i : Instr} (hs : s.state = .idle) (e : exec i s = .next t) (ht : t.state ≠ .idle) :
    i ≠ .init ∧ ∀ a, i ≠ .rdreg a := by
  constructor
  · rintro rfl
    cases (execInit_free (.inr hs)).symm.trans e
    exact ht rfl
  · rintro a rfl
    cases e
    exact ht hs

end ArmAndEvent

/-- Settles O48: the `Idle` event writes the timer registers only, which the arm passes on unread and the armed
micro-step writes anew. -/
theorem armAndIdleEventCommute : Obligations.ArmAndIdleEventCommute := by
  intro w i s armed hd hs e harmed
  obtain ⟨hinit, hrdreg⟩ := ne_init_ne_rdreg_of_arms hs e harmed
  obtain ⟨-, hmoves, -⟩ := frontEndWritesEngineContextOnlyInIdle w i s armed hd hinit e
  obtain ⟨-, hmem⟩ := hmoves (hs ▸ harmed)
  exact ⟨_, _, event_idle hs, exec_setTimerTo hd hinit hrdreg e, event_setTimerTo_of_armed hmem⟩

end Sys2Proof.Machine

/-! # Reset (70_reset_and_hazards.md)

INIT and the reset input both take `State.resetBlock`, in one step (R230). -/

namespace Sys2Proof.Machine

section ResetInput

/-! ### The turn of the reset input (R230) -/

variable {s : State}

/-- The reset input is not gated: the step that takes its turn only uses up the turn and resets the block. -/
theorem step_of_resetInput (h : s.schedule.head? = some .resetInput) : step s = .next s.tick.resetBlock := by
  obtain ⟨-, e⟩ | ⟨hne, -⟩ | ⟨hne, -⟩ := step_cases s
  · exact e
  · exact absurd h hne
  · exact absurd h hne

theorem resetBlock_tick_of_schedule {turn : Turn} {turns : List Turn} (h : s.schedule = turn :: turns) :
    s.tick.resetBlock = { s.resetBlock with schedule := turns, turnCount := s.turnCount + 1 } := by
  simp [State.tick, State.resetBlock, h]

end ResetInput

/-- Settles O12: INIT where it is free to go, and the reset input at its turn, answer `resetBlock`, which writes the
reset values (R42) and keeps what stands outside the block. -/
theorem initAndResetInputRestoreTheResetValues : Obligations.InitAndResetInputRestoreTheResetValues := by
  intro s cleared
  constructor
  · intro hfree
    exact execInit_free hfree.symm
  · intro turns hturns
    have hturn : s.schedule.head? = some .resetInput := by rw [hturns]; rfl
    calc step s
      _ = .next s.tick.resetBlock := step_of_resetInput hturn
      _ = .next { s.resetBlock with schedule := turns, turnCount := s.turnCount + 1 } := by
        rw [resetBlock_tick_of_schedule hturns]

end Sys2Proof.Machine
